-- ==== Sys2Proof/Word.lean ====
section
/-!
DEFINITION. The word types of the EJ-420: bytes, words, lines, line addresses, epochs and the small index types
that spec/00_scope.md's conventions fix.
-/

namespace Sys2Proof

/-- A byte of a service frame. -/
abbrev Byte := BitVec 8

/-- A word is 32 bits (00_scope.md, Conventions). -/
abbrev Word := BitVec 32

/-- A line is 8 words, word 0 first (00_scope.md, Conventions). -/
abbrev LineData := Vector Word 8

/-- A line address is a byte address divided by 32, 27 bits wide (00_scope.md, Conventions). -/
abbrev LineAddr := BitVec 27

/-- An epoch number is a 16-bit value; 0 means "no epoch" (00_scope.md, Conventions). -/
abbrev Epoch := BitVec 16

/-- One of the eight bus initiators (R1). -/
abbrev Initiator := Fin 8

/-- A host tag (R1). -/
abbrev Tag := Fin 16

/-- An (initiator, tag) pair identifies one outstanding request (R6). -/
abbrev Pair := Initiator × Tag

/-- A region table index, 0 to 11 (R19). -/
abbrev RegionIndex := Fin 12

/-- The identity of a host tracker entry, 0 to 7 (R60). -/
abbrev HostId := Fin 8

end Sys2Proof
end

