-- ==== Sys2Proof/Config.lean ====
section
/-!
DEFINITION. The sizes and durations that the EJ-420's manual fixes, and the one value it leaves open.
-/

namespace Sys2Proof.Config

/-- The intake queue holds up to 8 requests (R5). -/
def intakeCapacity : Nat := 8

/-- The wait list holds up to 16 entries (R52). -/
def waitCapacity : Nat := 16

/-- The journal is a ring of 1024 record positions (R66). -/
def ringSize : Nat := 1024

/-- At most 4 checkpoints are open (R90). -/
def maxDepth : Nat := 4

/-- A payload is 0 to 40 bytes long (R161). -/
def maxPayload : Nat := 40

/-- The M-port's quiet interval after the release of PORn, in µs (R17). -/
def quietInterval : Nat := 64

/-- The journal's initialisation, in µs (R85). -/
def initDuration : Nat := 128

/-- The deadline divider counts this many TBCLK periods to a millisecond (R135). -/
def microsPerMilli : Nat := 1000

/-- The further count saturates here (R153). -/
def furtherLimit : Nat := 255

/-- FREE VALUE (R8: "of two that became ready together, either may be offered first"). The n-th time the response
selector has several responses that have been ready equally long, it offers the one at this number, taken modulo how
many there are. Nothing is known of it: see notes/assumptions/1.md. -/
opaque selectorChoice : Nat → Nat

end Sys2Proof.Config
end

