-- ==== Sys2Proof/Syntax.lean ====
section
/-!
DEFINITION. The commands of the EJ-420: one constructor per row of spec/opcode_table.json, with the operands that what
happens at a port carries (a host request, a memory answer, a command frame, the bits of a select period).
-/

namespace Sys2Proof

/-- The kind of a host request (R1). -/
inductive RequestKind where
  | read
  | write
  deriving DecidableEq, Repr

/-- A request as it is presented on the H-port request bundle (R1). `address` is the 30-bit word address. -/
structure Request where
  kind      : RequestKind
  initiator : Initiator
  tag       : Tag
  address   : BitVec 30
  count     : BitVec 4
  mask      : BitVec 32
  data      : LineData
  deriving DecidableEq, Repr

/-- What the memory controller answers (R14). For an OK answer to a read kind the lanes hold the words of the operation,
first word first; for a write kind they are ignored. -/
inductive MemAnswer where
  | ok (lanes : LineData)
  | error
  deriving DecidableEq, Repr

/-- Where the select period that carries a frame or a fetch began, which is at the fall of SSELn (R169, R174). -/
inductive PeriodStart where
  /-- SSELn fell with PORn high and outside the quiesce of a soft reset, and PORn has stayed high since. -/
  | live
  /-- SSELn fell during the quiesce of a soft reset (R174). -/
  | inQuiesce
  /-- SSELn fell while PORn was low, or PORn went low during the period (R169). -/
  | acrossPorn
  deriving DecidableEq, Repr

/-- A command frame that completed with a right CRC (R161), less its command code: the toggle bit and the payload, whose
length is the frame's L. -/
structure Frame where
  start   : PeriodStart
  toggle  : Bool
  payload : List Byte
  deriving DecidableEq, Repr

/-- The commands: every row of spec/opcode_table.json. A row named after a service command is the completion of a command
frame with that command's code (R165); REPEAT_FRAME and UNKNOWN_COMMAND also carry the code. -/
inductive Instr where
  | takeRequest (r : Request)
  | responseTaken
  | examination
  | waitExpiry (place : Fin 16)
  | issueGrant
  | operationAccepted
  | answer (identity : Fin 16) (a : MemAnswer)
  | pornAssert
  | pornRelease
  | quietIntervalEnd
  | journalReady
  | firstExpiry
  | secondExpiry
  | frameError (start : PeriodStart) (bits : List Bool)
  | repeatFrame (code : BitVec 7) (f : Frame)
  | fetchPeriod (start : PeriodStart) (clocked : Nat)
  | unknownCommand (code : BitVec 7) (f : Frame)
  | identify (f : Frame)
  | readStatus (f : Frame)
  | readEvents (f : Frame)
  | clearEvents (f : Frame)
  | readCapture (f : Frame)
  | ackCapture (f : Frame)
  | readParam (f : Frame)
  | writeDefaultPolicy (f : Frame)
  | writeFullAction (f : Frame)
  | writeJhighLevel (f : Frame)
  | writeWaitLimit (f : Frame)
  | writeDlEnable (f : Frame)
  | writeDlPeriod (f : Frame)
  | writeDlTarget (f : Frame)
  | writeEventEnable (f : Frame)
  | stageRegion (f : Frame)
  | clearStaged (f : Frame)
  | revertStaged (f : Frame)
  | applyRegions (f : Frame)
  | setRegionState (f : Frame)
  | readRegion (f : Frame)
  | mark (f : Frame)
  | release (f : Frame)
  | rollback (f : Frame)
  | discard (f : Frame)
  | readCheckpoints (f : Frame)
  | readJournal (f : Frame)
  | softReset (f : Frame)
  | softResetStep4
  deriving DecidableEq, Repr

end Sys2Proof
end

