-- ==== Sys2Proof/Decode.lean ====
section
/-!
DEFINITION. Reading the service link: bits to bytes (R158), the CRC-8 (R162), command frames (R160, R161), select periods
(R159), the command codes (R176), and which command of Syntax.lean a period spells. spec/opcode_table.json gives no row
any bits, so decodeTableWord answers none for every word.
-/

namespace Sys2Proof

/-- The byte that eight bits make, the first of them the most significant (R158). -/
def byteOfBits (b7 b6 b5 b4 b3 b2 b1 b0 : Bool) : Byte :=
  BitVec.ofBoolListBE [b7, b6, b5, b4, b3, b2, b1, b0]

/-- The bits of a byte in the order they travel, most significant first (R158). -/
def bitsOfByte (b : Byte) : List Bool :=
  [b.getMsbD 0, b.getMsbD 1, b.getMsbD 2, b.getMsbD 3, b.getMsbD 4, b.getMsbD 5, b.getMsbD 6, b.getMsbD 7]

/-- Every eighth sampled bit completes a byte; an incomplete last byte is discarded (R158). -/
def bytesOfBits : List Bool → List Byte
  | b7 :: b6 :: b5 :: b4 :: b3 :: b2 :: b1 :: b0 :: rest => byteOfBits b7 b6 b5 b4 b3 b2 b1 b0 :: bytesOfBits rest
  | _ => []

/-- The bits that carry a list of bytes (R158). -/
def bitsOfBytes (bs : List Byte) : List Bool := bs.flatMap bitsOfByte

/-- One shift of the CRC register: the polynomial's lower eight bits are 0x07 (R162). -/
def crcShift (r : Byte) : Byte := if r.msb then (r <<< 1) ^^^ 0x07#8 else r <<< 1

/-- The CRC register after one more byte: exclusive-or, then eight shifts (R162). -/
def crcByte (r b : Byte) : Byte := Nat.iterate crcShift 8 (r ^^^ b)

/-- The CRC register carried on from `r` over the bytes `bs` (R162). -/
def crcFrom (r : Byte) (bs : List Byte) : Byte := bs.foldl crcByte r

/-- The CRC-8 of a frame's bytes 0 to L+1: the register starts at 0xFF and is not inverted at the end (R162). -/
def crc8 (bs : List Byte) : Byte := crcFrom 0xFF#8 bs

/-- Frame bytes 0 to L+1: the toggle bit and the seven-bit code, the payload length, the payload (R161). -/
def frameBody (toggle : Bool) (code : BitVec 7) (payload : List Byte) : List Byte :=
  (BitVec.ofBool toggle ++ code) :: BitVec.ofNat 8 payload.length :: payload

/-- A whole frame: its body and the CRC over the body (R161). -/
def frameBytes (toggle : Bool) (code : BitVec 7) (payload : List Byte) : List Byte :=
  frameBody toggle code payload ++ [crc8 (frameBody toggle code payload)]

/-- The marker of a command period (R159). -/
def commandMarker : Byte := 0xC5#8

/-- The marker of a fetch period (R159). -/
def fetchMarker : Byte := 0x3A#8

/-- The bits of a command period that carries one frame (R159, R160). -/
def commandPeriodBits (toggle : Bool) (code : BitVec 7) (payload : List Byte) : List Bool :=
  bitsOfBytes (commandMarker :: frameBytes toggle code payload)

/-- What a whole select period is to the controller (R159, R160, R163). -/
inductive PeriodReading where
  /-- No first byte, or a first byte that is neither marker (R159). -/
  | ignored
  /-- A fetch period with this many bits clocked after the marker (R167). -/
  | fetch (clocked : Nat)
  /-- A command period whose frame is incomplete, too long or has a wrong CRC (R163). -/
  | error
  /-- A command period whose frame completed with a right CRC (R160). -/
  | frame (toggle : Bool) (code : BitVec 7) (payload : List Byte)
  deriving DecidableEq, Repr

/-- The frame read from the bytes after the marker of a command period; the bytes after a complete frame are
discarded (R160, R163). -/
def readFrame : List Byte → PeriodReading
  | b0 :: len :: rest =>
    if Config.maxPayload < len.toNat then .error
    else
      match rest[len.toNat]? with
      | none => .error
      | some crc =>
        if crc = crc8 (b0 :: len :: rest.take len.toNat) then .frame b0.msb (b0.extractLsb' 0 7) (rest.take len.toNat)
        else .error
  | _ => .error

/-- A select period by its marker (R159). -/
def readPeriod (bits : List Bool) : PeriodReading :=
  match bytesOfBits bits with
  | [] => .ignored
  | marker :: rest =>
    if marker = commandMarker then readFrame rest
    else if marker = fetchMarker then .fetch (bits.length - 8)
    else .ignored

/-- The command codes of R176. -/
def knownCodes : List (BitVec 7) :=
  [0x01#7, 0x02#7, 0x03#7, 0x04#7, 0x05#7, 0x06#7, 0x08#7, 0x09#7, 0x10#7, 0x11#7, 0x12#7, 0x13#7, 0x14#7, 0x15#7,
   0x20#7, 0x21#7, 0x22#7, 0x23#7, 0x24#7, 0x28#7, 0x3F#7]

/-- R176: any code not in the table is unknown. -/
def isKnownCode (code : BitVec 7) : Bool := knownCodes.contains code

/-- The WRITE-PARAM row that a frame with code 0x09 spells: the one of the identifier in payload byte 0 (R187, R189). A
frame with a wrong length or an unknown identifier names no parameter; it is given to the first row, whose meaning
refuses it (notes/assumptions/6.md). -/
def writeParamCommand (f : Frame) : Instr :=
  match if f.payload.length = 3 then (f.payload.getD 0 0).toNat else 0 with
  | 2 => .writeFullAction f
  | 3 => .writeJhighLevel f
  | 4 => .writeWaitLimit f
  | 5 => .writeDlEnable f
  | 6 => .writeDlPeriod f
  | 7 => .writeDlTarget f
  | 8 => .writeEventEnable f
  | _ => .writeDefaultPolicy f

/-- The command that a frame with this code spells when it is executed (R176). -/
def commandOfCode (code : BitVec 7) (f : Frame) : Instr :=
  match code.toNat with
  | 0x01 => .identify f
  | 0x02 => .readStatus f
  | 0x03 => .readEvents f
  | 0x04 => .clearEvents f
  | 0x05 => .readCapture f
  | 0x06 => .ackCapture f
  | 0x08 => .readParam f
  | 0x09 => writeParamCommand f
  | 0x10 => .stageRegion f
  | 0x11 => .clearStaged f
  | 0x12 => .revertStaged f
  | 0x13 => .applyRegions f
  | 0x14 => .setRegionState f
  | 0x15 => .readRegion f
  | 0x20 => .mark f
  | 0x21 => .release f
  | 0x22 => .rollback f
  | 0x23 => .discard f
  | 0x24 => .readCheckpoints f
  | 0x28 => .readJournal f
  | 0x3F => .softReset f
  | _ => .unknownCommand code f

/-- The command that a whole select period spells to a controller whose expected toggle is `expected`: none for an ignored
period, FRAME_ERROR, FETCH_PERIOD, REPEAT_FRAME for a frame with the other toggle, and otherwise the row of the frame's
code (R159 to R167). -/
def periodCommand (expected : Bool) (start : PeriodStart) (bits : List Bool) : Option Instr :=
  match readPeriod bits with
  | .ignored => none
  | .fetch clocked => some (.fetchPeriod start clocked)
  | .error => some (.frameError start bits)
  | .frame toggle code payload =>
    if toggle = expected then some (commandOfCode code ⟨start, toggle, payload⟩)
    else some (.repeatFrame code ⟨start, toggle, payload⟩)

/-- The command that a word spells by the bits of spec/opcode_table.json: the table gives no row any bits, so no word spells
a command. -/
def decodeTableWord (_nbits _w : Nat) : Option Instr := none

end Sys2Proof
end

