-- ==== Sys2Proof/Machine/State.lean ====
section
/-!
DEFINITION. The state of the EJ-420, block by block, as plain data; the reasons a step can stop; and the state right after
the power-on reset. Each structure names the rules of spec/ that give its fields.
-/

namespace Sys2Proof.Machine

/-! ## Outcomes that stop -/

/-- The faults of the machine: none. The manual stops on no command and no event, so no meaning raises a fault. -/
inductive Fault where
  deriving DecidableEq, Repr

/-- The refusals of the machine. -/
inductive Refusal where
  /-- A command of the table that has no meaning yet. Only exec's own arms could raise it, and none does; safe. -/
  | notModelled (mnemonic : String)
  deriving DecidableEq, Repr

/-! ## H-port (chapter 1) -/

/-- Why a response is not OKAY (R7). -/
inductive Reason where
  | malformed
  | tagInUse
  | unmapped
  | notPermitted
  | readOnly
  | shut
  | faultLocked
  | journalFull
  | waitTimeout
  | reset
  | preReadFault
  | memFault
  deriving DecidableEq, Repr

/-- The outcome a response carries: OKAY, with the words read (none for a write), or a reason (R7). -/
inductive Result where
  | okay (words : List Word)
  | failed (reason : Reason)
  deriving DecidableEq, Repr

/-- A response that a holder has ready: its outcome, the region index it hands to the capture record (R152), and the
number of the event that made it ready, by which the selector finds the one ready longest (R8). -/
structure Ready where
  result : Result
  region : Option RegionIndex
  since  : Nat
  deriving DecidableEq, Repr

/-- The request refused at taking, with its refusal (R4). -/
structure TakingEntry where
  request : Request
  answer  : Ready
  deriving DecidableEq, Repr

/-- A request in the intake queue, and its response once it is answering (R5, R9). -/
structure IntakeEntry where
  request   : Request
  answering : Option Ready
  deriving DecidableEq, Repr

/-- The holders of responses (R8). A wait-list entry is named by its pair, which no other request in custody has (R6). -/
inductive Holder where
  | taking
  | intakeHead
  | waiting (pair : Pair)
  | host (id : HostId)
  deriving DecidableEq, Repr

/-- The H-port: taking register (R4), intake queue (R5), outstanding pairs (R6), and the holder whose response is being
offered (R8). -/
structure HPort where
  taking      : Option TakingEntry
  intake      : List IntakeEntry
  outstanding : List Pair
  offered     : Option Holder
  deriving DecidableEq, Repr

/-! ## M-port (chapter 1) -/

/-- The kinds of M-port operation (R12). -/
inductive OpKind where
  | fwdRead
  | fwdWrite
  | preRead
  | restore
  deriving DecidableEq, Repr

/-- The tracker entries by identity: host entries 0 to 7, and the restore entry, which has identity 8 (R12). -/
inductive EntryId where
  | host (id : HostId)
  | restore
  deriving DecidableEq, Repr

/-- An M-port operation as the operation bundle carries it (R12). -/
structure Operation where
  kind  : OpKind
  entry : EntryId
  line  : LineAddr
  first : Nat
  count : Nat
  mask  : Option (BitVec 32)
  data  : Option LineData
  deriving DecidableEq, Repr

/-- The M-port: the operation being presented (R13) and, while the quiet interval runs, the time it began (R17). -/
structure MPort where
  presented  : Option Operation
  quietSince : Option Nat
  deriving DecidableEq, Repr

/-! ## Region unit (chapter 2) -/

/-- How matched requests are treated (R19). -/
inductive Mode where
  | pass
  | journal
  | readOnly
  deriving DecidableEq, Repr

/-- A region entry (R19). Bit i of the mask admits initiator i. -/
structure RegionEntry where
  valid : Bool
  base  : LineAddr
  limit : LineAddr
  mode  : Mode
  mask  : BitVec 8
  deriving DecidableEq, Repr

/-- The content of an invalid entry (R19). -/
def RegionEntry.invalid : RegionEntry := ⟨false, 0, 0, .pass, 0⟩

/-- The software state of an index (R27). -/
inductive SoftwareState where
  | opened
  | hold
  | shut
  deriving DecidableEq, Repr

/-- The region unit: active and staged tables (R19), staged-dirty (R20), software states (R27). -/
structure Regions where
  active   : Vector RegionEntry 12
  staged   : Vector RegionEntry 12
  dirty    : Bool
  software : Vector SoftwareState 12
  deriving DecidableEq, Repr

/-! ## Admission stage and wait list (chapter 3) -/

/-- Why a request is parked (R52). -/
inductive ParkReason where
  | hold
  | rollback
  | line
  | slot
  | jfull
  deriving DecidableEq, Repr

/-- A wait-list entry (R52). -/
structure WaitEntry where
  request   : Request
  reason    : ParkReason
  region    : Option RegionIndex
  parkedAt  : Nat
  expiry    : Option Nat
  released  : Bool
  answering : Option Ready
  deriving DecidableEq, Repr

/-- The marks of a held intake head: the reason and region index of its last examination, and the re-examine mark (R58). -/
structure HeldHead where
  reason    : ParkReason
  region    : Option RegionIndex
  reexamine : Bool
  deriving DecidableEq, Repr

/-- The wait list (R52), the held marks of the intake head (R58), and the refusal the admission stage is stalled on (R40,
R49). -/
structure Admission where
  waitList  : List WaitEntry
  held      : Option HeldHead
  stalledOn : Option Holder
  deriving DecidableEq, Repr

/-! ## Line tracker (chapter 3) -/

/-- The kind of a host entry; a JWRITE keeps the position and epoch of its record (R60). -/
inductive EntryKind where
  | read
  | write
  | jwrite (position : Nat) (epoch : Epoch)
  deriving DecidableEq, Repr

/-- The phase of a host entry; in ANSWER it holds its response (R60). -/
inductive Phase where
  | mem
  | pre
  | wr
  | answer (ready : Ready)
  deriving DecidableEq, Repr

/-- How an entry stands with its M-port operation: it has one to issue, it has one outstanding, or neither (R13). -/
inductive OpState where
  | toIssue
  | outstanding
  | idle
  deriving DecidableEq, Repr

/-- A host entry in use (R60). Its line is the line of its request. -/
structure HostEntry where
  id      : HostId
  kind    : EntryKind
  phase   : Phase
  op      : OpState
  request : Request
  region  : Option RegionIndex
  deriving DecidableEq, Repr

/-- The restore entry in use (R64). -/
structure RestoreEntry where
  line     : LineAddr
  position : Nat
  preImage : LineData
  op       : OpState
  deriving DecidableEq, Repr

/-- The line tracker: the host entries in use, in order of creation, and the restore entry (R60, R64). -/
structure Tracker where
  hosts   : List HostEntry
  restore : Option RestoreEntry
  deriving DecidableEq, Repr

/-! ## Journal (chapter 4) -/

/-- The states of a live record: the orphan field is yes only on a RESERVED one, and the pre-image is present only in a VALID
one (R67). -/
inductive RecordState where
  | reserved (orphan : Bool)
  | valid (preImage : LineData)
  | void
  deriving DecidableEq, Repr

/-- A live journal record (R67). -/
structure Record where
  state     : RecordState
  epoch     : Epoch
  line      : LineAddr
  initiator : Initiator
  region    : RegionIndex
  deriving DecidableEq, Repr

/-- READY, initialising since a time (R85), or NOT READY with no initialisation running: while PORn is low, or in the
quiesce after a SOFT-RESET that abandoned one (R86). -/
inductive Readiness where
  | ready
  | initialising (since : Nat)
  | notReady
  deriving DecidableEq, Repr

/-- The journal (R66): the head, and the positions from the head up to the tail in ring order, `none` being a FREED one. The
occupancy is the length of the ring list and the tail follows from both (Journal.tail). Every other position reads as FREED. -/
structure Journal where
  readiness : Readiness
  head      : Nat
  ring      : List (Option Record)
  deriving DecidableEq, Repr

/-! ## Checkpoint stack (chapter 5) -/

/-- An open checkpoint (R90). -/
structure Checkpoint where
  epoch    : Epoch
  mark     : Nat
  distance : Nat
  deriving DecidableEq, Repr

/-- The checkpoint stack, oldest first (R90), and the next-epoch counter (R93). -/
structure Stack where
  checkpoints : List Checkpoint
  nextEpoch   : Epoch
  deriving DecidableEq, Repr

/-! ## Restore engine (chapter 6) -/

/-- The states of the restore engine (R109). -/
inductive EngineState where
  | idle
  | drain
  | restore
  | failed
  deriving DecidableEq, Repr

/-- The restore span (R113). -/
structure Span where
  start  : Nat
  length : Nat
  deriving DecidableEq, Repr

/-- The restore engine (R109). The cursor is the position before the tail in RESTORE and none elsewhere (State.cursor). -/
structure Engine where
  state    : EngineState
  span     : Option Span
  retry    : Bool
  stopping : Bool
  lostrb   : Bool
  deriving DecidableEq, Repr

/-! ## Deadline timer (chapter 7) -/

/-- The states of the deadline timer (R133). -/
inductive TimerState where
  | off
  | running
  | warned
  | suspended
  deriving DecidableEq, Repr

/-- The deadline timer (R133): elapsed time and period in force in ms, and the divider of R135 in µs. -/
structure Timer where
  state   : TimerState
  elapsed : Nat
  divider : Nat
  period  : Nat
  deriving DecidableEq, Repr

/-! ## Event unit (chapter 8) -/

/-- A valid capture record (R151). Its status follows from the reason (Reason.status). -/
structure Capture where
  reason    : Reason
  initiator : Initiator
  tag       : Tag
  kind      : RequestKind
  address   : BitVec 30
  region    : Option RegionIndex
  epoch     : Epoch
  further   : Nat
  deriving DecidableEq, Repr

/-- The event unit: the nine flags, flag of index i at bit i (R145), and the capture record, none while invalid (R151). -/
structure Events where
  flags   : BitVec 9
  capture : Option Capture
  deriving DecidableEq, Repr

/-! ## Parameters (chapter 10) -/

/-- DEFAULT_POLICY (R22). -/
inductive Policy where
  | pass
  | refuse
  deriving DecidableEq, Repr

/-- FULL_ACTION (R84). -/
inductive FullAction where
  | wait
  | refuse
  deriving DecidableEq, Repr

/-- DL_TARGET (R141). -/
inductive DlTarget where
  | newest
  | oldest
  deriving DecidableEq, Repr

/-- The eight parameters (R187). -/
structure Params where
  defaultPolicy : Policy
  fullAction    : FullAction
  jhighLevel    : Nat
  waitLimit     : Nat
  dlEnable      : Bool
  dlPeriod      : Nat
  dlTarget      : DlTarget
  eventEnable   : BitVec 9
  deriving DecidableEq, Repr

/-! ## Service link (chapter 9) -/

/-- The statuses of a response frame (R179). -/
inductive Status where
  | done
  | started
  | busy
  | notReady
  | faulted
  | depth
  | noCheckpoint
  | badArg
  | unknown
  | badLength
  | frameErr
  | resetDone
  deriving DecidableEq, Repr

/-- A response frame, less its length and CRC, which follow from the payload (R161). -/
structure LinkResponse where
  toggle  : Bool
  status  : Status
  payload : List Byte
  deriving DecidableEq, Repr

/-- The service link controller: expected toggle, repeat-response and fetch-response (R164); from step 1 to step 4 of a soft
reset the noted toggle (R170); and the bits that SDO carried after the marker of the last fetch period (R167). -/
structure Link where
  expected       : Bool
  repeatResponse : LinkResponse
  fetchResponse  : Option LinkResponse
  quiesce        : Option Bool
  shifted        : List Bool
  deriving DecidableEq, Repr

/-! ## The part -/

/-- The whole part: the level of PORn, TBCLK time in µs, the blocks, and three fields of the model's own: the number of the
next event that makes a response ready, the number of free choices made so far, and the queue of waiting commands. -/
structure State where
  porn      : Bool
  now       : Nat
  hport     : HPort
  mport     : MPort
  regions   : Regions
  admission : Admission
  tracker   : Tracker
  journal   : Journal
  stack     : Stack
  engine    : Engine
  timer     : Timer
  events    : Events
  params    : Params
  link      : Link
  readySeq  : Nat
  choices   : Nat
  pending   : List Instr
  deriving DecidableEq, Repr

/-- Right after the release of PORn: the values of R4 to R6, R17, R37, R59, R65, R88, R107, R110, R144, R156, R169 and R187,
with the journal initialising and the quiet interval running. TBCLK time is counted from here (notes/assumptions/5.md). -/
def State.reset : State where
  porn := true
  now := 0
  hport := { taking := none, intake := [], outstanding := [], offered := none }
  mport := { presented := none, quietSince := some 0 }
  regions :=
    { active := Vector.replicate 12 RegionEntry.invalid
      staged := Vector.replicate 12 RegionEntry.invalid
      dirty := false
      software := Vector.replicate 12 .opened }
  admission := { waitList := [], held := none, stalledOn := none }
  tracker := { hosts := [], restore := none }
  journal := { readiness := .initialising 0, head := 0, ring := [] }
  stack := { checkpoints := [], nextEpoch := 1 }
  engine := { state := .idle, span := none, retry := false, stopping := false, lostrb := false }
  timer := { state := .off, elapsed := 0, divider := 0, period := 64 }
  events := { flags := 0, capture := none }
  params :=
    { defaultPolicy := .pass, fullAction := .wait, jhighLevel := 768, waitLimit := 11
      dlEnable := false, dlPeriod := 6, dlTarget := .newest, eventEnable := 0 }
  link :=
    { expected := false
      repeatResponse := ⟨true, .resetDone, [0x00]⟩
      fetchResponse := some ⟨true, .resetDone, [0x00]⟩
      quiesce := none
      shifted := [] }
  readySeq := 0
  choices := 0
  pending := []

end Sys2Proof.Machine
end

