-- ==== Sys2Proof/Machine/Operands.lean ====
section
/-!
DEFINITION. The operand forms: the values that a host request derives from its fields (R1), the fields of a command payload
(R180, R182 to R185), and the encodings of enumerated values (R179, R181).
-/

namespace Sys2Proof.Machine

/-! ## Host requests (R1) -/

/-- The line of a request: its byte address divided by 32, which is its word address divided by 8 (R1). -/
def requestLine (r : Request) : LineAddr := r.address.extractLsb' 3 27

/-- The first word of a request: the word offset of its address within the line, 0 to 7 (R1). -/
def requestFirst (r : Request) : Nat := (r.address.extractLsb' 0 3).toNat

/-- The (initiator, tag) pair of a request (R6). -/
def requestPair (r : Request) : Pair := (r.initiator, r.tag)

/-- The byte address of a request: the word address times 4 (R1). -/
def byteAddress (address : BitVec 30) : Word := address ++ (0#2)

/-- Check 1 at taking: the count is 0 or 9 to 15, or the request would cross into the next line (R3). -/
def requestMalformed (r : Request) : Bool :=
  decide (r.count.toNat = 0 ∨ 9 ≤ r.count.toNat ∨ 8 < requestFirst r + r.count.toNat)

/-- The entry that a 4-bit answer identity names; 9 to 15 name none (R12, R15). -/
def entryOfIdentity (identity : Fin 16) : Option EntryId :=
  if h : identity.val < 8 then some (.host ⟨identity.val, h⟩)
  else if identity.val = 8 then some .restore
  else none

/-! ## Multi-byte fields (R180) -/

/-- A two-byte field, most significant byte first (R180). -/
def word16 (hi lo : Byte) : BitVec 16 := hi ++ lo

/-- A four-byte field, most significant byte first (R180). -/
def word32 (b3 b2 b1 b0 : Byte) : BitVec 32 := b3 ++ b2 ++ b1 ++ b0

/-- The two bytes of a 16-bit field, most significant first (R180). -/
def bytes16 (v : BitVec 16) : List Byte := [v.extractLsb' 8 8, v.extractLsb' 0 8]

/-- The four bytes of a 32-bit field, most significant first (R180). -/
def bytes32 (v : BitVec 32) : List Byte :=
  [v.extractLsb' 24 8, v.extractLsb' 16 8, v.extractLsb' 8 8, v.extractLsb' 0 8]

/-- Payload byte `i` of a frame (chapter 10). The generic length check has found it present wherever it is used. -/
def payloadByte (f : Frame) (i : Nat) : Byte := f.payload.getD i 0

/-- The 16-bit payload field at offset `i` (R180). -/
def payload16 (f : Frame) (i : Nat) : BitVec 16 := word16 (payloadByte f i) (payloadByte f (i + 1))

/-- The 32-bit payload field at offset `i` (R180). -/
def payload32 (f : Frame) (i : Nat) : BitVec 32 :=
  word32 (payloadByte f i) (payloadByte f (i + 1)) (payloadByte f (i + 2)) (payloadByte f (i + 3))

/-- A region index byte; 12 to 255 are outside its range (R182). -/
def regionIndexOfByte (b : Byte) : Option RegionIndex :=
  if h : b.toNat < 12 then some ⟨b.toNat, h⟩ else none

/-- A line address field; values above 134,217,727 are outside its range (R182). -/
def lineOfField (v : BitVec 32) : Option LineAddr :=
  if v.toNat ≤ 134217727 then some (v.extractLsb' 0 27) else none

/-! ## Enumerated values (R181) -/

/-- The mode of a mode byte (R181). -/
def modeOfByte (b : Byte) : Option Mode :=
  match b.toNat with
  | 0 => some .pass
  | 1 => some .journal
  | 2 => some .readOnly
  | _ => none

/-- The code of a mode (R181). -/
def modeCode : Mode → Byte
  | .pass => 0x00
  | .journal => 0x01
  | .readOnly => 0x02

/-- The software state of a byte (R181). -/
def softwareStateOfByte (b : Byte) : Option SoftwareState :=
  match b.toNat with
  | 0 => some .opened
  | 1 => some .hold
  | 2 => some .shut
  | _ => none

/-- The code of a software state (R181). -/
def softwareStateCode : SoftwareState → Byte
  | .opened => 0x00
  | .hold => 0x01
  | .shut => 0x02

/-- The code of a region index, 0xFF for none (R181). -/
def regionCode : Option RegionIndex → Byte
  | some i => BitVec.ofNat 8 i.val
  | none => 0xFF

/-- The code of a request kind (R181). -/
def kindCode : RequestKind → Byte
  | .read => 0x00
  | .write => 0x01

/-- The two-bit code of a restore engine state (R181). -/
def engineCode : EngineState → BitVec 2
  | .idle => 0
  | .drain => 1
  | .restore => 2
  | .failed => 3

/-- The two-bit code of a deadline timer state (R181). -/
def timerCode : TimerState → BitVec 2
  | .off => 0
  | .running => 1
  | .warned => 2
  | .suspended => 3

/-- The two-bit code of a record state (R181); FREED is 0. -/
def recordCode : RecordState → BitVec 2
  | .reserved _ => 1
  | .valid _ => 2
  | .void => 3

/-- The code of a capture reason (R181). -/
def reasonCode : Reason → Byte
  | .malformed => 0x01
  | .tagInUse => 0x02
  | .unmapped => 0x03
  | .notPermitted => 0x04
  | .readOnly => 0x05
  | .shut => 0x06
  | .faultLocked => 0x07
  | .journalFull => 0x08
  | .waitTimeout => 0x09
  | .reset => 0x0A
  | .preReadFault => 0x0B
  | .memFault => 0x0C

/-- The status of a response on the H-port (R7). -/
inductive HostStatus where
  | okay
  | refused
  | memFault
  deriving DecidableEq, Repr

/-- The status that goes with a reason (R7). -/
def reasonStatus : Reason → HostStatus
  | .preReadFault | .memFault => .memFault
  | .malformed | .tagInUse | .unmapped | .notPermitted | .readOnly | .shut | .faultLocked | .journalFull | .waitTimeout
  | .reset => .refused

/-- The code of a captured status (R181); OKAY is never captured. -/
def hostStatusCode : HostStatus → Byte
  | .okay => 0x00
  | .refused => 0x01
  | .memFault => 0x02

/-- The status code of a response frame (R179). -/
def statusCode : Status → BitVec 7
  | .done => 0x00
  | .started => 0x01
  | .busy => 0x10
  | .notReady => 0x11
  | .faulted => 0x12
  | .depth => 0x13
  | .noCheckpoint => 0x14
  | .badArg => 0x15
  | .unknown => 0x16
  | .badLength => 0x17
  | .frameErr => 0x20
  | .resetDone => 0x30

end Sys2Proof.Machine
end

