-- ==== Sys2Proof/Machine/Flags.lean ====
section
/-!
DEFINITION. The event flags, INTn and the capture record (chapter 8).
-/

namespace Sys2Proof.Machine

/-- The nine event flags (R145). -/
inductive Flag where
  | ready
  | viol
  | waitto
  | jhigh
  | jfull
  | dlwarn
  | dlroll
  | rbdone
  | rbfail
  deriving DecidableEq, Repr

/-- The index of a flag, its place in every mask (R145). -/
def flagIndex : Flag → Nat
  | .ready => 0
  | .viol => 1
  | .waitto => 2
  | .jhigh => 3
  | .jfull => 4
  | .dlwarn => 5
  | .dlroll => 6
  | .rbdone => 7
  | .rbfail => 8

/-- The mask with only this flag's bit (R180). -/
def flagBit (f : Flag) : BitVec 9 := 1#9 <<< flagIndex f

/-- Whether a flag is set (R145). -/
def flagSet (s : State) (f : Flag) : Bool := s.events.flags.getLsbD (flagIndex f)

/-- Setting a flag: one already set stays set (R145). -/
def setFlag (f : Flag) (s : State) : State :=
  { s with events := { s.events with flags := s.events.flags ||| flagBit f } }

/-- INTn is asserted exactly while at least one flag is both set and enabled (R150). The line is a function of the flags and
the mask. -/
def intAsserted (s : State) : Bool := s.events.flags &&& s.params.eventEnable != 0

/-- The event unit's part in the taking of a response (R152, R153): a non-OKAY response fills an invalid record, with the
current epoch given, and sets VIOL; while the record is valid it adds 1 to further, up to 255. -/
def captureResponse (epoch : Epoch) (r : Request) (a : Ready) (s : State) : State :=
  match a.result with
  | .okay _ => s
  | .failed reason =>
    match s.events.capture with
    | none =>
      setFlag .viol
        { s with
          events :=
            { s.events with
              capture := some
                { reason := reason, initiator := r.initiator, tag := r.tag, kind := r.kind, address := r.address
                  region := a.region, epoch := epoch, further := 0 } } }
    | some c =>
      { s with
        events := { s.events with capture := some { c with further := min Config.furtherLimit (c.further + 1) } } }

end Sys2Proof.Machine
end

