-- ==== Sys2Proof/Machine/Ops.lean ====
section
/-!
DEFINITION. The shared operations of the blocks: the views that the manual names (tail, occupancy, depth, current epoch …),
the journal, the releases of parked requests, the deadline timer, the restore engine, the response selector, the service
link's handling of a frame, and the two resets. The meanings in the family files are built from these.
-/

namespace Sys2Proof.Machine

/-! ## Views -/

/-- The journal's occupancy (R66). -/
def occupancy (j : Journal) : Nat := j.ring.length

/-- The journal's tail: occupancy positions after the head in ring order (R66). -/
def tail (j : Journal) : Nat := (j.head + j.ring.length) % Config.ringSize

/-- How many positions a ring position stands after the head (R66). -/
def ringIndex (j : Journal) (position : Nat) : Nat := (position + Config.ringSize - j.head) % Config.ringSize

/-- The live record at a ring position, if the position holds one (R67, R89). -/
def recordAt (j : Journal) (position : Nat) : Option Record := (j.ring[ringIndex j position]?).join

/-- The number of open checkpoints (R90). -/
def depth (s : State) : Nat := s.stack.checkpoints.length

/-- The epoch of the newest open checkpoint, or 0 (R92). -/
def currentEpoch (s : State) : Epoch := (s.stack.checkpoints.getLast?.map Checkpoint.epoch).getD 0

/-- The cursor of the restore engine: in RESTORE the position just before the tail, and none otherwise (R109). -/
def cursor (s : State) : Option Nat :=
  if s.engine.state = .restore then some ((tail s.journal + (Config.ringSize - 1)) % Config.ringSize) else none

/-- The journal is READY (R85). -/
def journalIsReady (s : State) : Bool := decide (s.journal.readiness = .ready)

/-- The quiesce of a soft reset is under way (R170). -/
def quiescing (s : State) : Bool := s.link.quiesce.isSome

/-! ## Events under power -/

/-- While PORn is low no block acts (R16, R37, R107, R110, R144, R156, R169). -/
def whilePowered (act : State → State) (s : State) : State := if s.porn then act s else s

/-! ## Regions (chapter 2) -/

/-- An entry covers a line: it is valid, and the line lies from its base to its limit (R19, R21). -/
def covers (e : RegionEntry) (line : LineAddr) : Bool := e.valid && decide (e.base ≤ line) && decide (line ≤ e.limit)

/-- The lowest index whose active entry covers the line (R21). -/
def matchLine (g : Regions) (line : LineAddr) : Option RegionIndex :=
  (List.finRange 12).find? fun i => covers (g.active.get i) line

/-- Staged-dirty brought up to date: set exactly when the tables differ (R20). -/
def refreshDirty (g : Regions) : Regions := { g with dirty := decide (g.staged ≠ g.active) }

/-! ## Releases (R53, R58) -/

/-- What clears a reason to park (R53). -/
inductive Clearing where
  /-- SET-REGION-STATE changed the software state of this index. -/
  | softwareState (index : RegionIndex)
  /-- The restore engine left DRAIN or RESTORE. -/
  | engineLeft
  /-- A host entry for this line retired. -/
  | retired (line : LineAddr)
  /-- A clearing of reason JFULL. -/
  | journal
  /-- A promotion or a write of DEFAULT_POLICY: every entry. -/
  | everything
  deriving DecidableEq, Repr

/-- Whether a clearing releases a request for `line` that holds this reason and region index (R53). -/
def clears (c : Clearing) (reason : ParkReason) (region : Option RegionIndex) (line : LineAddr) : Bool :=
  match c with
  | .softwareState i => decide (reason = .hold ∧ region = some i)
  | .engineLeft => decide (reason = .rollback)
  | .retired l => decide (reason = .slot ∨ (reason = .line ∧ line = l))
  | .journal => decide (reason = .jfull)
  | .everything => true

/-- The released mark: an answering entry is not marked (R54). -/
def markReleased (e : WaitEntry) : WaitEntry := if e.answering.isNone then { e with released := true } else e

/-- The held head's re-examine mark, put on by a clearing that would release an entry like it (R58). -/
def markHeld (c : Clearing) (intake : List IntakeEntry) (h : HeldHead) : HeldHead :=
  match intake with
  | [] => h
  | e :: _ => if clears c h.reason h.region (requestLine e.request) then { h with reexamine := true } else h

/-- A clearing marks every wait-list entry that matches it, and a held head that matches it (R53, R54, R58). -/
def release (c : Clearing) (s : State) : State :=
  { s with
    admission :=
      { s.admission with
        waitList := s.admission.waitList.map fun e =>
          if clears c e.reason e.region (requestLine e.request) then markReleased e else e
        held := s.admission.held.map (markHeld c s.hport.intake) } }

/-- A wait-list entry of this line that holds reason LINE is released (R53, R57). -/
def releaseBehind (line : LineAddr) (e : WaitEntry) : WaitEntry :=
  if e.reason = .line ∧ requestLine e.request = line then markReleased e else e

/-- The entry at place `k` leaves the list: the entries behind it close up, those behind it parked LINE for its line are
released, and a held head gets the re-examine mark (R53, R57, R58). -/
def leaveWaitList (k : Nat) (s : State) : State :=
  match s.admission.waitList[k]? with
  | none => s
  | some e =>
    { s with
      admission :=
        { s.admission with
          waitList :=
            s.admission.waitList.take k ++
              (s.admission.waitList.drop (k + 1)).map (releaseBehind (requestLine e.request))
          held := s.admission.held.map fun h => { h with reexamine := true } } }

/-- Promotion: the staged table replaces the active one, staged-dirty is cleared, every wait-list entry is released (R33). -/
def promote (s : State) : State :=
  release .everything { s with regions := { s.regions with active := s.regions.staged, dirty := false } }

/-! ## The journal (chapter 4) -/

/-- A record is RESERVED or VALID (R43). -/
def protects (r : Record) : Bool :=
  match r.state with
  | .reserved _ | .valid _ => true
  | .void => false

/-- The needs-a-record search: a RESERVED or VALID record of the line in this epoch (R72). -/
def findsProtecting (j : Journal) (line : LineAddr) (epoch : Epoch) : Bool :=
  j.ring.any fun slot => slot.any fun r => protects r && decide (r.line = line ∧ r.epoch = epoch)

/-- The fault-lock search: a live record of the line anywhere between head and tail (R72). -/
def findsLive (j : Journal) (line : LineAddr) : Bool :=
  j.ring.any fun slot => slot.any fun r => decide (r.line = line)

/-- The positions of a span that are still between head and tail, in ring order (R72, R113). -/
def spanSlots (j : Journal) (p : Span) : List (Option Record) := (j.ring.drop (ringIndex j p.start)).take p.length

/-- The positions of the engine's span, none when it holds no span (R109). -/
def engineSpan (s : State) : List (Option Record) :=
  match s.engine.span with
  | none => []
  | some p => spanSlots s.journal p

/-- The span search: a live record of the line in the span (R72). -/
def findsInSpan (s : State) (line : LineAddr) : Bool :=
  (engineSpan s).any fun slot => slot.any fun r => decide (r.line = line)

/-- The span-reserved search: a RESERVED record in the span (R72). -/
def spanReserved (s : State) : Bool :=
  (engineSpan s).any fun slot => slot.any fun r =>
    match r.state with
    | .reserved _ => true
    | .valid _ | .void => false

/-- The JFULL release when the occupancy has fallen from 1024 (R78). -/
def signalFall (before : Nat) (s : State) : State :=
  if before = Config.ringSize ∧ occupancy s.journal < Config.ringSize then release .journal s else s

/-- Head advance over the FREED positions at the head (R75). -/
def advanceHead (j : Journal) : Journal :=
  { j with
    head := (j.head + (j.ring.takeWhile Option.isNone).length) % Config.ringSize
    ring := j.ring.dropWhile Option.isNone }

/-- Reservation of a record at the tail: the occupancy and every mark distance rise by one, and JHIGH is set if the
occupancy goes from below JHIGH_LEVEL to it (R68, R82, R91). -/
def reserveRecord (r : Request) (region : RegionIndex) (s : State) : State :=
  let s' :=
    { s with
      journal :=
        { s.journal with
          ring := s.journal.ring ++
            [some
              { state := .reserved false, epoch := currentEpoch s, line := requestLine r, initiator := r.initiator
                region := region }] }
      stack :=
        { s.stack with checkpoints := s.stack.checkpoints.map fun c => { c with distance := c.distance + 1 } } }
  if s.params.jhighLevel ≠ 0 ∧ occupancy s.journal < s.params.jhighLevel ∧ s.params.jhighLevel ≤ occupancy s.journal + 1 then
    setFlag .jhigh s'
  else s'

/-- A record once its PRE-READ is answered: VALID or VOID, or, for an orphan, FREED (R70, R71). A record that is not
RESERVED is not changed; no such answer reaches one (4.4). -/
def settledRecord (a : MemAnswer) (r : Record) : Option Record :=
  match r.state, a with
  | .reserved true, _ => none
  | .reserved false, .ok lanes => some { r with state := .valid lanes }
  | .reserved false, .error => some { r with state := .void }
  | .valid _, _ | .void, _ => some r

/-- The journal settles the record at a position by the answer to its PRE-READ; head advance follows the freeing of an
orphan, and the JFULL release a fall from 1024 (R70, R71, R75, R78). -/
def settleRecord (position : Nat) (a : MemAnswer) (s : State) : State :=
  match recordAt s.journal position with
  | none => s
  | some r =>
    let j := { s.journal with ring := s.journal.ring.set (ringIndex s.journal position) (settledRecord a r) }
    match settledRecord a r with
    | some _ => { s with journal := j }
    | none => signalFall (occupancy s.journal) { s with journal := advanceHead j }

/-- A record whose epoch is removed by a RELEASE or DISCARD: VALID and VOID are freed, RESERVED becomes an orphan (R79). -/
def abandonedRecord (r : Record) : Option Record :=
  match r.state with
  | .reserved _ => some { r with state := .reserved true }
  | .valid _ | .void => none

/-- The journal gives up the records of a set of epochs; head advance and the JFULL release follow (R75, R78, R79). -/
def abandonEpochs (epochs : List Epoch) (s : State) : State :=
  signalFall (occupancy s.journal)
    { s with
      journal :=
        advanceHead
          { s.journal with
            ring := s.journal.ring.map fun slot =>
              slot.bind fun r => if r.epoch ∈ epochs then abandonedRecord r else some r } }

/-- The restore engine frees the `k` newest records at the tail: the tail is drawn back, the occupancy and every mark
distance fall by `k`, and the JFULL release follows a fall from 1024 (R76, R78, R91). -/
def freeAtTail (k : Nat) (s : State) : State :=
  signalFall (occupancy s.journal)
    { s with
      journal := { s.journal with ring := s.journal.ring.take (s.journal.ring.length - k) }
      stack :=
        { s.stack with checkpoints := s.stack.checkpoints.map fun c => { c with distance := c.distance - k } } }

/-! ## Epochs (R93) -/

/-- The epochs of the live records between head and tail (R93). -/
def liveEpochs (j : Journal) : List Epoch := j.ring.filterMap fun slot => slot.map Record.epoch

/-- The next epoch number: up by one, from 65535 to 1, never to 0 (R93). -/
def succEpoch (e : Epoch) : Epoch := if e = 65535#16 then 1#16 else e + 1#16

/-- The first value after `e` that is not in use; `fuel` bounds the values tried (R93). -/
def nextFree (inUse : List Epoch) : Nat → Epoch → Epoch
  | 0, e => succEpoch e
  | fuel + 1, e => if succEpoch e ∈ inUse then nextFree inUse fuel (succEpoch e) else succEpoch e

/-! ## The deadline timer (chapter 7) -/

/-- P = 2^n ms for DL_PERIOD n (R134). -/
def periodOf (n : Nat) : Nat := 2 ^ n

/-- A restart, when DL_ENABLE is on: RUNNING, elapsed time 0, the divider afresh, the period from DL_PERIOD (R136). While
DL_ENABLE is off the timer is left as it is, OFF. -/
def restartTimer (s : State) : State :=
  if s.params.dlEnable then
    { s with timer := { state := .running, elapsed := 0, divider := 0, period := periodOf s.params.dlPeriod } }
  else s

/-- The timer goes OFF with elapsed time 0 (R137). -/
def stopTimer (s : State) : State := { s with timer := { s.timer with state := .off, elapsed := 0, divider := 0 } }

/-- At the acceptance of a rollback: SUSPENDED while DL_ENABLE is on, and left OFF while it is off (R112, R142). -/
def suspendTimer (s : State) : State :=
  if s.params.dlEnable then { s with timer := { s.timer with state := .suspended, elapsed := 0, divider := 0 } } else s

/-! ## The restore engine (chapter 6) -/

/-- How many of the newest `d` positions, from the tail downward, are VOID before the first that is not (R118). -/
def voidRun (ring : List (Option Record)) (d : Nat) : Nat :=
  ((ring.reverse.take d).takeWhile fun slot => slot.any fun r => decide (r.state = .void)).length

/-- The restore is complete: IDLE, RBDONE, the ROLLBACK waiters released, the timer restarted (R123). -/
def completeRestore (s : State) : State :=
  restartTimer
    (release .engineLeft
      (setFlag .rbdone { s with engine := { s.engine with state := .idle, span := none, retry := false } }))

/-- The restore entry receives a RESTORE of the record before the tail (R119). -/
def handRestore (s : State) : State :=
  match s.journal.ring.getLast? with
  | some (some r) =>
    match r.state with
    | .valid pre =>
      { s with
        tracker :=
          { s.tracker with
            restore := some
              { line := r.line, position := (tail s.journal + (Config.ringSize - 1)) % Config.ringSize, preImage := pre
                op := .toIssue } } }
    | .reserved _ | .void => s
  | some none | none => s

/-- The engine in RESTORE goes on at the cursor: it frees the run of VOID records there, and then completes if the target's
mark distance has reached 0, or hands out the RESTORE of the VALID record it meets (R118, R119, R123). -/
def continueRestore (s : State) : State :=
  match s.stack.checkpoints.getLast? with
  | none => s
  | some target =>
    let k := voidRun s.journal.ring target.distance
    if k = target.distance then completeRestore (freeAtTail k s) else handRestore (freeAtTail k s)

/-- The drain condition: no host entry in use is for a line with a live record in the span, and no record of the span is
RESERVED (R115). -/
def drainHolds (s : State) : Bool :=
  (s.tracker.hosts.all fun e => !findsInSpan s (requestLine e.request)) && !spanReserved s

/-- The drain test: in DRAIN, unless the engine is stopping, it enters RESTORE when the condition holds and begins at once
(R115, R118, R129). -/
def drainTest (s : State) : State :=
  if s.engine.state = .drain ∧ s.engine.stopping = false ∧ drainHolds s = true then
    continueRestore { s with engine := { s.engine with state := .restore } }
  else s

/-- The acceptance of a rollback to the open checkpoint at place `k`, oldest first (R112): the newer ones are removed with
nothing handed to the journal (R105), the span is fixed (R113), the engine enters DRAIN, the timer is suspended, and the
drain condition is tested. -/
def acceptRollback (k : Nat) (s : State) : State :=
  match s.stack.checkpoints[k]? with
  | none => s
  | some target =>
    drainTest
      (suspendTimer
        { s with
          stack := { s.stack with checkpoints := s.stack.checkpoints.take (k + 1) }
          engine :=
            { s.engine with state := .drain, span := some ⟨target.mark, target.distance⟩, retry := false } })

/-! ## The response selector (R8) -/

/-- The request of a holder and the response it has ready (R8, R9). -/
def answerOf (s : State) : Holder → Option (Request × Ready)
  | .taking => s.hport.taking.map fun t => (t.request, t.answer)
  | .intakeHead => s.hport.intake.head?.bind fun e => e.answering.map fun a => (e.request, a)
  | .waiting p =>
    (s.admission.waitList.find? fun e => requestPair e.request = p).bind fun e => e.answering.map fun a => (e.request, a)
  | .host id =>
    (s.tracker.hosts.find? fun e => e.id = id).bind fun e =>
      match e.phase with
      | .answer a => some (e.request, a)
      | .mem | .pre | .wr => none

/-- Every holder, whether or not it has a response ready (R8). -/
def holders (s : State) : List Holder :=
  .taking :: .intakeHead ::
    (s.admission.waitList.map (fun e => .waiting (requestPair e.request)) ++ s.tracker.hosts.map fun e => .host e.id)

/-- The holders with a response ready, each with the number of the event that made it ready (R8). -/
def readyHolders (s : State) : List (Holder × Nat) :=
  (holders s).filterMap fun h => (answerOf s h).map fun x => (h, x.2.since)

/-- The holders whose response has been ready longest (R8). -/
def longestReady (s : State) : List Holder :=
  match ((readyHolders s).map Prod.snd).min? with
  | none => []
  | some t => ((readyHolders s).filter fun x => x.2 = t).map Prod.fst

/-- When the output is free the selector offers the response that has been ready longest; of several that became ready
together it offers the one that the free value names (R8). -/
def offerNext (s : State) : State :=
  match s.hport.offered with
  | some _ => s
  | none =>
    match longestReady s with
    | [] => s
    | [h] => { s with hport := { s.hport with offered := some h } }
    | h :: h' :: rest =>
      { s with
        hport :=
          { s.hport with
            offered := (h :: h' :: rest)[Config.selectorChoice s.choices % (h :: h' :: rest).length]? }
        choices := s.choices + 1 }

/-- The responses made ready by this event are numbered after all earlier ones (R8). -/
def bumpReady (s : State) : State := { s with readySeq := s.readySeq + 1 }

/-! ## The service link (chapter 9) -/

/-- The controller takes a period that began with the link usable: PORn is high and no quiesce is under way (R169, R174). -/
def linkListens (start : PeriodStart) (s : State) : Bool := s.porn && !quiescing s && decide (start = .live)

/-- FRAMEERR becomes the fetch-response; the expected toggle and the repeat-response stay (R163). -/
def storeFrameErr (s : State) : State :=
  { s with link := { s.link with fetchResponse := some ⟨false, .frameErr, []⟩ } }

/-- A repeat copies the repeat-response into the fetch-response (R166). -/
def storeRepeat (s : State) : State := { s with link := { s.link with fetchResponse := some s.link.repeatResponse } }

/-- The link's part of an execution: the response echoes the frame's toggle and becomes both stored responses, and the
expected toggle flips (R165). -/
def respond (toggle : Bool) (status : Status) (payload : List Byte) (s : State) : State :=
  { s with
    link :=
      { s.link with
        expected := !s.link.expected
        repeatResponse := ⟨toggle, status, payload⟩
        fetchResponse := some ⟨toggle, status, payload⟩ } }

/-- A command frame at its completion: ignored while the link does not listen (R169, R174), in error when its payload is
too long (R160, R163), a repeat when its toggle is not the expected one (R166), and otherwise executed (R165). -/
def receiveFrame (f : Frame) (execute : State → State) (s : State) : State :=
  if linkListens f.start s = false then s
  else if Config.maxPayload < f.payload.length then storeFrameErr s
  else if f.toggle ≠ s.link.expected then storeRepeat s
  else execute s

/-- What a command's own checks and effect give: the part afterwards, and the status and payload of its response. -/
structure Reply where
  status  : Status
  payload : List Byte
  after   : State

/-- A refusal by a command's own checks leaves the part as it was (R178) and answers with no payload (R176). -/
def refuse (status : Status) (s : State) : Reply := ⟨status, [], s⟩

/-- An accepted command (R176). -/
def accept (payload : List Byte) (s : State) : Reply := ⟨.done, payload, s⟩

/-- The execution of a command frame: the generic checks in order, then the command's own part, then the response (R165,
R177). -/
def execCommand (f : Frame) (length : Nat) (needsJournal : Bool) (own : State → Reply) (s : State) : State :=
  receiveFrame f
    (fun s =>
      if f.payload.length ≠ length then respond f.toggle .badLength [] s
      else if needsJournal = true ∧ journalIsReady s = false then respond f.toggle .notReady [] s
      else respond f.toggle (own s).status (own s).payload (own s).after)
    s

/-! ## Resets -/

/-- The power-on values at the release of PORn: those of State.reset, with the initialisation and the quiet interval
beginning now (R17, R85, R88, R169). -/
def powerOnValues (s : State) : State :=
  { State.reset with
    now := s.now
    mport := { State.reset.mport with quietSince := some s.now }
    journal := { State.reset.journal with readiness := .initialising s.now }
    choices := s.choices
    pending := s.pending }

/-- While PORn is low: everything held is dropped, and every block is at its power-on value with nothing begun (R16, R85,
R156). LOSTRB and the parameters wait for the release (R131, R190), but EVENT_ENABLE, which is 0 at once (R156). See
notes/assumptions/8.md. -/
def powerOffValues (s : State) : State :=
  { State.reset with
    porn := false
    now := s.now
    mport := { State.reset.mport with quietSince := none }
    journal := { State.reset.journal with readiness := .notReady }
    engine := { State.reset.engine with lostrb := s.engine.lostrb }
    params := { s.params with eventEnable := 0 }
    choices := s.choices
    pending := s.pending }

/-- Step 4 of a soft reset that noted this toggle: every block takes its soft-reset values, LOSTRB is kept, the journal's
initialisation begins, and RESETDONE with cause 0x01 becomes both stored responses (R18, R173). A quiet interval that the
last release of PORn began goes on (notes/assumptions/9.md). -/
def softResetValues (toggle : Bool) (s : State) : State :=
  { State.reset with
    porn := s.porn
    now := s.now
    mport := { presented := none, quietSince := s.mport.quietSince }
    journal := { State.reset.journal with readiness := .initialising s.now }
    engine := { State.reset.engine with lostrb := s.engine.lostrb }
    link :=
      { expected := !toggle
        repeatResponse := ⟨toggle, .resetDone, [0x01]⟩
        fetchResponse := some ⟨toggle, .resetDone, [0x01]⟩
        quiesce := none
        shifted := s.link.shifted }
    choices := s.choices
    pending := s.pending }

/-- The conditions of step 4: nothing is left in the intake queue, the wait list, the taking register or the tracker; with
no entry in use no operation is outstanding (R173). -/
def quiesceDone (s : State) : Bool :=
  s.hport.intake.isEmpty && s.admission.waitList.isEmpty && s.hport.taking.isNone && s.tracker.hosts.isEmpty &&
    s.tracker.restore.isNone

/-- Step 4 is taken in the first event in which its conditions hold (R173). -/
def settleQuiesce (s : State) : State :=
  match s.link.quiesce with
  | none => s
  | some toggle => if quiesceDone s then softResetValues toggle s else s

end Sys2Proof.Machine
end

