-- ==== Sys2Proof/Machine/Admission.lean ====
section
/-!
DEFINITION. The admission stage and the wait list: EXAMINATION (R40 to R51) and WAIT_EXPIRY (R56).
-/

namespace Sys2Proof.Machine

/-- The outcomes of an examination (R40). -/
inductive Verdict where
  /-- Dispatch into this identity; `journaled` says that the write needs a record (R48). -/
  | dispatch (id : HostId) (region : Option RegionIndex) (journaled : Bool)
  | park (reason : ParkReason) (region : Option RegionIndex)
  | refuse (reason : Reason) (region : Option RegionIndex)
  deriving DecidableEq, Repr

/-- A request whose line matches this index needs a record: it is a WRITE, the mode is JOURNAL, the depth is at least 1 and
the journal holds no RESERVED or VALID record of the line in the current epoch (R43). -/
def needsRecord (s : State) (r : Request) (index : RegionIndex) : Bool :=
  decide (r.kind = .write) && decide ((s.regions.active.get index).mode = .journal) && decide (1 ≤ depth s) &&
    !findsProtecting s.journal (requestLine r) (currentEpoch s)

/-- The lowest-numbered free identity, none while all 8 host entries are in use (R42 check 7, R48). -/
def freeIdentity (s : State) : Option HostId :=
  (List.finRange 8).find? fun id => s.tracker.hosts.all fun e => e.id ≠ id

/-- Check 6: a host entry is for the line, or a wait-list entry that stands earlier is (R46). -/
def lineBusy (s : State) (line : LineAddr) (earlier : List WaitEntry) : Bool :=
  (s.tracker.hosts.any fun e => requestLine e.request = line) || earlier.any fun e => requestLine e.request = line

/-- Checks 4 to 9 for a request that has passed the region unit's checks with this region index (R42, R44 to R48). -/
def examineLater (s : State) (r : Request) (region : Option RegionIndex) (needs : Bool) (earlier : List WaitEntry) : Verdict :=
  if s.engine.state = .failed ∧ (findsLive s.journal (requestLine r) = true ∨ needs = true) then .refuse .faultLocked region
  else if (s.engine.state = .drain ∨ s.engine.state = .restore) ∧
      (findsInSpan s (requestLine r) = true ∨ needs = true) then .park .rollback region
  else if lineBusy s (requestLine r) earlier then .park .line region
  else
    match freeIdentity s with
    | none => .park .slot region
    | some id =>
      if needs = true ∧ Config.ringSize ≤ occupancy s.journal then
        match s.params.fullAction with
        | .wait => .park .jfull region
        | .refuse => .refuse .journalFull region
      else .dispatch id region needs

/-- The examination of a request: checks 1 to 9 in order, the first that decides ending it (R42). `earlier` is the wait-list
entries that stand before the request. -/
def examine (s : State) (r : Request) (earlier : List WaitEntry) : Verdict :=
  match matchLine s.regions (requestLine r) with
  | none =>
    match s.params.defaultPolicy with
    | .refuse => .refuse .unmapped none
    | .pass => examineLater s r none false earlier
  | some i =>
    if (s.regions.active.get i).mask.getLsbD r.initiator.val = false then .refuse .notPermitted (some i)
    else if (s.regions.active.get i).mode = .readOnly ∧ r.kind = .write then .refuse .readOnly (some i)
    else
      match s.regions.software.get i with
      | .shut => .refuse .shut (some i)
      | .hold => .park .hold (some i)
      | .opened => examineLater s r (some i) (needsRecord s r i) earlier

/-- Check 8 decided: the journal was full for a request that needs a record (R83). -/
def metFullJournal : Verdict → Bool
  | .park .jfull _ => true
  | .refuse .journalFull _ => true
  | _ => false

/-- The journal sets JFULL when check 8 decides, whichever FULL_ACTION is in force (R83). -/
def noteFull (v : Verdict) (s : State) : State := if metFullJournal v then setFlag .jfull s else s

/-- The new host entry, placed last in the order of creation with its first operation ready (R48, R61, R62). -/
def addHost (id : HostId) (kind : EntryKind) (phase : Phase) (r : Request) (region : Option RegionIndex) (s : State) : State :=
  { s with
    tracker :=
      { s.tracker with
        hosts := s.tracker.hosts ++ [{ id := id, kind := kind, phase := phase, op := .toIssue, request := r, region := region }] } }

/-- The kind of a plain entry (R48). -/
def plainKind : RequestKind → EntryKind
  | .read => .read
  | .write => .write

/-- Dispatch: a JWRITE reserves a record at the tail and keeps its position and epoch; any other request becomes a READ or
WRITE entry (R48, R68). A write that needs a record has always matched an index (R43). -/
def dispatch (id : HostId) (region : Option RegionIndex) (journaled : Bool) (r : Request) (s : State) : State :=
  match journaled, region with
  | true, some i => addHost id (.jwrite (tail s.journal) (currentEpoch s)) .pre r region (reserveRecord r i s)
  | true, none | false, _ => addHost id (plainKind r.kind) .mem r region s

/-- The request that is examined next: the earliest released wait-list entry, or else the intake head unless it is
answering, or held without the re-examine mark (R40, R41). -/
inductive Subject where
  | waiting (place : Nat)
  | head
  deriving DecidableEq, Repr

/-- The intake head is eligible (R40, R58). -/
def headEligible (s : State) : Bool :=
  (s.hport.intake.head?.any fun e => e.answering.isNone) && s.admission.held.all HeldHead.reexamine

/-- The choice of R41, while the stage is free to examine: powered, not stalled, and not in a quiesce (R40, R59). -/
def nextSubject (s : State) : Option Subject :=
  if s.porn = true ∧ quiescing s = false ∧ s.admission.stalledOn = none then
    match s.admission.waitList.findIdx? fun e => e.released && e.answering.isNone with
    | some k => some (.waiting k)
    | none => if headEligible s then some .head else none
  else none

/-- The WAIT_LIMIT's expiry for a first parking now: none for 0, else now plus 2^(n-1) µs (R50, R55). -/
def firstExpiryTime (s : State) : Option Nat :=
  if s.params.waitLimit = 0 then none else some (s.now + 2 ^ (s.params.waitLimit - 1))

/-- The outcome for the released wait-list entry at place `k` (R48, R49, R50). -/
def applyToWaiting (k : Nat) (e : WaitEntry) (v : Verdict) (s : State) : State :=
  match v with
  | .dispatch id region journaled => leaveWaitList k (dispatch id region journaled e.request s)
  | .park reason region =>
    { s with
      admission :=
        { s.admission with
          waitList := s.admission.waitList.set k { e with reason := reason, region := region, released := false } } }
  | .refuse reason region =>
    bumpReady
      { s with
        admission :=
          { s.admission with
            waitList :=
              s.admission.waitList.set k
                { e with released := false, answering := some ⟨.failed reason, region, s.readySeq⟩ }
            stalledOn := some (.waiting (requestPair e.request)) } }

/-- The outcome for the intake head, `rest` being the queue behind it (R48, R49, R50, R58). -/
def applyToHead (r : Request) (rest : List IntakeEntry) (v : Verdict) (s : State) : State :=
  match v with
  | .dispatch id region journaled =>
    let s' := dispatch id region journaled r s
    { s' with hport := { s'.hport with intake := rest }, admission := { s'.admission with held := none } }
  | .park reason region =>
    if s.admission.waitList.length < Config.waitCapacity then
      { s with
        hport := { s.hport with intake := rest }
        admission :=
          { s.admission with
            waitList := s.admission.waitList ++
              [{ request := r, reason := reason, region := region, parkedAt := s.now, expiry := firstExpiryTime s
                 released := false, answering := none }]
            held := none } }
    else { s with admission := { s.admission with held := some ⟨reason, region, false⟩ } }
  | .refuse reason region =>
    bumpReady
      { s with
        hport := { s.hport with intake := ⟨r, some ⟨.failed reason, region, s.readySeq⟩⟩ :: rest }
        admission := { s.admission with held := none, stalledOn := some .intakeHead } }

/-- One examination, taken whole (R40). -/
def examineSubject (subject : Subject) (s : State) : State :=
  match subject with
  | .waiting k =>
    match s.admission.waitList[k]? with
    | none => s
    | some e =>
      let v := examine s e.request (s.admission.waitList.take k)
      applyToWaiting k e v (noteFull v s)
  | .head =>
    match s.hport.intake with
    | [] => s
    | e :: rest =>
      let v := examine s e.request s.admission.waitList
      applyToHead e.request rest v (noteFull v s)

/-- EXAMINATION. When no request is eligible the stage is idle and nothing is examined (R40). -/
def execExamination (s : State) : Host.Outcome State Fault Refusal :=
  .next
    (match nextSubject s with
    | none => s
    | some subject => offerNext (examineSubject subject s))

/-- The wait-list entry at place `k` has reached its expiry and is not answering (R56). -/
def expiryDue (k : Nat) (s : State) : Bool :=
  s.porn && (s.admission.waitList[k]?).any fun e => e.answering.isNone && e.expiry.any fun t => decide (t ≤ s.now)

/-- The entry at place `k` expires: it becomes answering with WAIT_TIMEOUT and its recorded region index, its released mark
is removed, and WAITTO is set (R54, R56). -/
def expire (k : Nat) (s : State) : State :=
  setFlag .waitto
    (bumpReady
      { s with
        admission :=
          { s.admission with
            waitList := s.admission.waitList.modify k fun e =>
              { e with released := false, answering := some ⟨.failed .waitTimeout, e.region, s.readySeq⟩ } } })

/-- WAIT_EXPIRY of the entry at a place of the list. An entry whose expiry has not been reached does not expire (R56). -/
def execWaitExpiry (place : Fin 16) (s : State) : Host.Outcome State Fault Refusal :=
  .next (if expiryDue place.val s then offerNext (expire place.val s) else s)

end Sys2Proof.Machine
end

