-- ==== Sys2Proof/Machine/Checkpoints.lean ====
section
/-!
DEFINITION. The checkpoint and journal commands: MARK (R95, R96), RELEASE (R99, R100), ROLLBACK (R111, R112), DISCARD (R102
to R104), READ_CHECKPOINTS (R106) and READ_JOURNAL (R89), with the layouts of R183 and R184.
-/

namespace Sys2Proof.Machine

/-- The engine is in DRAIN or RESTORE, which MARK, RELEASE, ROLLBACK and DISCARD answer BUSY (R95, R99, R102, R111). -/
def engineBusy (s : State) : Bool := decide (s.engine.state = .drain ∨ s.engine.state = .restore)

/-- The epochs in use: those of the open checkpoints and of the live records (R93). -/
def epochsInUse (s : State) : List Epoch := s.stack.checkpoints.map Checkpoint.epoch ++ liveEpochs s.journal

/-- Steps 1 and 2 of an accepted MARK: the new checkpoint is pushed with the counter's value, the tail and distance 0, and
the counter advances past every value in use (R93, R96). -/
def pushCheckpoint (s : State) : State :=
  let s' :=
    { s with
      stack :=
        { s.stack with
          checkpoints := s.stack.checkpoints ++
            [({ epoch := s.stack.nextEpoch, mark := tail s.journal, distance := 0 } : Checkpoint)] } }
  { s' with
    stack :=
      { s'.stack with
        nextEpoch := nextFree (epochsInUse s') (epochsInUse s').length s.stack.nextEpoch } }

/-- Step 3 of an accepted MARK: a promotion when staged-dirty is set (R34, R96). -/
def promoteIfDirty (s : State) : State := if s.regions.dirty then promote s else s

/-- An accepted MARK: its four steps, and LOSTRB is cleared (R96, R131). -/
def acceptMark (s : State) : State :=
  let s' := restartTimer (promoteIfDirty (pushCheckpoint s))
  { s' with engine := { s'.engine with lostrb := false } }

/-- MARK's own checks and effect (R95, R96, R183). -/
def markReply (s : State) : Reply :=
  if engineBusy s then refuse .busy s
  else if s.engine.state = .failed then refuse .faulted s
  else if Config.maxDepth ≤ depth s then refuse .depth s
  else accept (bytes16 s.stack.nextEpoch) (acceptMark s)

/-- MARK (R95, R96). -/
def execMark (f : Frame) (s : State) : Host.Outcome State Fault Refusal := .next (execCommand f 0 true markReply s)

/-- The timer at the end of a RELEASE: it restarts if a checkpoint is still open, and goes OFF at depth 0 (R100). -/
def timerAfterRelease (s : State) : State := if depth s = 0 then stopTimer s else restartTimer s

/-- An accepted RELEASE(n): the n oldest checkpoints are removed, the journal gives up their epochs, the timer follows, and
the JFULL waiters are released (R100). -/
def acceptRelease (n : Nat) (s : State) : State :=
  release .journal
    (timerAfterRelease
      (abandonEpochs ((s.stack.checkpoints.take n).map Checkpoint.epoch)
        { s with stack := { s.stack with checkpoints := s.stack.checkpoints.drop n } }))

/-- RELEASE's own checks and effect (R99, R100, R183). -/
def releaseReply (n : Nat) (s : State) : Reply :=
  if engineBusy s then refuse .busy s
  else if s.engine.state = .failed then refuse .faulted s
  else if depth s = 0 then refuse .noCheckpoint s
  else if n = 0 ∨ depth s < n then refuse .badArg s
  else
    let s' := acceptRelease n s
    accept (BitVec.ofNat 8 (depth s') :: bytes16 (currentEpoch s')) s'

/-- RELEASE (R99, R100). -/
def execRelease (f : Frame) (s : State) : Host.Outcome State Fault Refusal :=
  .next (execCommand f 1 true (releaseReply (payloadByte f 0).toNat) s)

/-- The place, oldest first, of the open checkpoint with this epoch; 0 names none (R94). -/
def findCheckpoint (epoch : Epoch) (s : State) : Option Nat :=
  if epoch = 0 then none else s.stack.checkpoints.findIdx? fun c => c.epoch = epoch

/-- ROLLBACK's own checks and effect: STARTED with the target epoch and the span length fixed at acceptance (R111, R112,
R183). -/
def rollbackReply (epoch : Epoch) (s : State) : Reply :=
  if engineBusy s then refuse .busy s
  else
    match findCheckpoint epoch s with
    | none => refuse .noCheckpoint s
    | some k =>
      ⟨.started, bytes16 epoch ++ bytes16 (BitVec.ofNat 16 ((s.stack.checkpoints[k]?.map Checkpoint.distance).getD 0)),
        acceptRollback k s⟩

/-- ROLLBACK (R111, R112, R127). -/
def execRollback (f : Frame) (s : State) : Host.Outcome State Fault Refusal :=
  .next (execCommand f 2 true (rollbackReply (payload16 f 0)) s)

/-- The set of epochs that a DISCARD hands the journal: those of the open checkpoints, and in FAILED those of every live
record too, so that every VALID and VOID record is freed and every RESERVED one orphaned (R103, R104). -/
def discardedEpochs (s : State) : List Epoch :=
  s.stack.checkpoints.map Checkpoint.epoch ++ if s.engine.state = .failed then liveEpochs s.journal else []

/-- An accepted DISCARD: every checkpoint is removed, the journal gives up their epochs, the timer goes OFF, the JFULL waiters
are released, and a FAILED engine returns to IDLE (R103, R104). -/
def acceptDiscard (s : State) : State :=
  let s' :=
    release .journal
      (stopTimer
        (abandonEpochs (discardedEpochs s) { s with stack := { s.stack with checkpoints := [] } }))
  { s' with engine := { s'.engine with state := .idle } }

/-- DISCARD's own check and effect (R102). -/
def discardReply (s : State) : Reply := if engineBusy s then refuse .busy s else accept [] (acceptDiscard s)

/-- DISCARD (R102 to R104). -/
def execDiscard (f : Frame) (s : State) : Host.Outcome State Fault Refusal := .next (execCommand f 0 true discardReply s)

/-- The six bytes of checkpoint k; zero beyond the depth (R183). -/
def checkpointBytes : Option Checkpoint → List Byte
  | none => [0x00, 0x00, 0x00, 0x00, 0x00, 0x00]
  | some c => bytes16 c.epoch ++ bytes16 (BitVec.ofNat 16 c.mark) ++ bytes16 (BitVec.ofNat 16 c.distance)

/-- The 27 bytes of READ-CHECKPOINTS (R183). -/
def checkpointsPayload (s : State) : List Byte :=
  BitVec.ofNat 8 (depth s) :: bytes16 s.stack.nextEpoch ++
    ([0, 1, 2, 3].flatMap fun k => checkpointBytes s.stack.checkpoints[k]?)

/-- READ_CHECKPOINTS changes nothing of the part (R106). -/
def execReadCheckpoints (f : Frame) (s : State) : Host.Outcome State Fault Refusal :=
  .next (execCommand f 0 false (fun s => accept (checkpointsPayload s) s) s)

/-- The orphan bit of a record: yes only while it is RESERVED (R67). -/
def orphanBit (r : Record) : Bool :=
  match r.state with
  | .reserved orphan => orphan
  | .valid _ | .void => false

/-- The pre-image bytes, present for a VALID record only (R184). -/
def preImageBytes (r : Record) : List Byte :=
  match r.state with
  | .valid pre => pre.toList.flatMap bytes32
  | .reserved _ | .void => []

/-- The bytes of READ-JOURNAL: 8 for a RESERVED or VOID record or a FREED position, 40 for a VALID record (R89, R184). -/
def journalPayload : Option Record → List Byte
  | none => [0x00, 0x00, 0x00, 0x00, 0x00, 0x00, 0x00, 0x00]
  | some r =>
    [(0#5) ++ BitVec.ofBool (orphanBit r) ++ recordCode r.state] ++ bytes16 r.epoch ++ bytes32 (r.line.setWidth 32) ++
      [(0#1) ++ BitVec.ofNat 3 r.initiator.val ++ BitVec.ofNat 4 r.region.val] ++ preImageBytes r

/-- READ-JOURNAL's own check and answer (R89). -/
def readJournalReply (position : Nat) (s : State) : Reply :=
  if Config.ringSize ≤ position then refuse .badArg s
  else accept (journalPayload (recordAt s.journal position)) s

/-- READ_JOURNAL changes nothing of the part (R89). -/
def execReadJournal (f : Frame) (s : State) : Host.Outcome State Fault Refusal :=
  .next (execCommand f 2 true (readJournalReply (payload16 f 0).toNat) s)

end Sys2Proof.Machine
end

