-- ==== Sys2Proof/Machine/Deadline.lean ====
section
/-!
DEFINITION. The deadline timer's own events: FIRST_EXPIRY (R140) and SECOND_EXPIRY (R114, R141).
-/

namespace Sys2Proof.Machine

/-- The RUNNING timer's elapsed time has reached the period in force (R140). -/
def firstExpiryDue (s : State) : Bool := decide (s.timer.state = .running ∧ s.timer.period ≤ s.timer.elapsed)

/-- The WARNED timer's elapsed time has reached the period in force, and the engine accepts a request for an open checkpoint:
the journal is READY and the engine IDLE or FAILED (R114, R141). -/
def secondExpiryDue (s : State) : Bool :=
  decide (s.timer.state = .warned ∧ s.timer.period ≤ s.timer.elapsed) &&
    (journalIsReady s && decide (s.engine.state = .idle ∨ s.engine.state = .failed) && decide (1 ≤ depth s))

/-- FIRST_EXPIRY: DLWARN is set and the timer enters WARNED with elapsed time 0 and the divider afresh (R140). A timer that
has not reached its period does not expire. -/
def execFirstExpiry (s : State) : Host.Outcome State Fault Refusal :=
  .next
    (whilePowered
      (fun s =>
        if firstExpiryDue s then
          setFlag .dlwarn { s with timer := { s.timer with state := .warned, elapsed := 0, divider := 0 } }
        else s)
      s)

/-- The place, oldest first, of the checkpoint that DL_TARGET chooses (R141). -/
def deadlineTarget (s : State) : Nat :=
  match s.params.dlTarget with
  | .newest => depth s - 1
  | .oldest => 0

/-- SECOND_EXPIRY: DLROLL is set and the automatic rollback is accepted in the same event (R112, R141). A timer that has not
reached its period does not expire. -/
def execSecondExpiry (s : State) : Host.Outcome State Fault Refusal :=
  .next
    (whilePowered
      (fun s => if secondExpiryDue s then acceptRollback (deadlineTarget s) (setFlag .dlroll s) else s)
      s)

end Sys2Proof.Machine
end

