-- ==== Sys2Proof/Machine/HostPort.lean ====
section
/-!
DEFINITION. The H-port's events: TAKE_REQUEST (R2 to R6) and RESPONSE_TAKEN (R8, R9, R57, R63, R152, R153).
-/

namespace Sys2Proof.Machine

/-- The H-port accepts the presented request: PORn is high, no quiesce is under way, the taking register is empty and the
intake queue has room (R2). -/
def canTake (s : State) : Bool :=
  s.porn && !quiescing s && s.hport.taking.isNone && decide (s.hport.intake.length < Config.intakeCapacity)

/-- The first check at taking that fails (R3). -/
def takingCheck (r : Request) (s : State) : Option Reason :=
  if requestMalformed r then some .malformed
  else if requestPair r ∈ s.hport.outstanding then some .tagInUse
  else none

/-- Taking a request: a refused one goes to the taking register, any other joins the intake queue and its pair the
outstanding set (R3, R4, R5, R6). -/
def takeRequest (r : Request) (s : State) : State :=
  match takingCheck r s with
  | some reason =>
    offerNext
      (bumpReady
        { s with hport := { s.hport with taking := some ⟨r, ⟨.failed reason, none, s.readySeq⟩⟩ } })
  | none =>
    { s with
      hport :=
        { s.hport with
          intake := s.hport.intake ++ [⟨r, none⟩]
          outstanding := s.hport.outstanding ++ [requestPair r] } }

/-- TAKE_REQUEST. While acceptance is withheld the request is not taken and no state records it (R2). -/
def execTakeRequest (r : Request) (s : State) : Host.Outcome State Fault Refusal :=
  .next (if canTake s then takeRequest r s else s)

/-- A host entry retires: it becomes free, LINE waiters of its line and SLOT waiters are released, and the engine tests the
drain condition (R63, R115). -/
def retireHost (id : HostId) (r : Request) (s : State) : State :=
  drainTest
    (release (.retired (requestLine r))
      { s with tracker := { s.tracker with hosts := s.tracker.hosts.filter fun e => e.id ≠ id } })

/-- The pair of an answered request leaves the outstanding set (R6). -/
def dropPair (p : Pair) (s : State) : State :=
  { s with hport := { s.hport with outstanding := s.hport.outstanding.erase p } }

/-- The holder gives up its request (R8): the taking register empties, the intake head leaves the queue, the wait-list entry
leaves the list, or the host entry retires. Only the taking register's pair was never in the outstanding set (R4). -/
def giveUp (h : Holder) (r : Request) (s : State) : State :=
  match h with
  | .taking => { s with hport := { s.hport with taking := none } }
  | .intakeHead =>
    dropPair (requestPair r) { s with hport := { s.hport with intake := s.hport.intake.drop 1 } }
  | .waiting p =>
    dropPair (requestPair r)
      (leaveWaitList (s.admission.waitList.findIdx fun e => requestPair e.request = p) s)
  | .host id => dropPair (requestPair r) (retireHost id r s)

/-- The admission stage is no longer stalled once the refusal it waits on is taken (R9, R40). -/
def unstall (h : Holder) (s : State) : State :=
  if s.admission.stalledOn = some h then { s with admission := { s.admission with stalledOn := none } } else s

/-- RESPONSE_TAKEN: the response offered is captured or counted if it is not OKAY, its holder gives up the request, the
next response is offered, and step 4 of a soft reset follows if this was the last thing it waited for (R8, R173). With no
response offered nothing is taken. -/
def execResponseTaken (s : State) : Host.Outcome State Fault Refusal :=
  .next
    (whilePowered
      (fun s =>
        match s.hport.offered with
        | none => s
        | some h =>
          match answerOf s h with
          | none => s
          | some (r, a) =>
            settleQuiesce
              (offerNext
                (unstall h
                  (giveUp h r
                    (captureResponse (currentEpoch s) r a
                      { s with hport := { s.hport with offered := none } })))))
      s)

end Sys2Proof.Machine
end

