-- ==== Sys2Proof/Machine/LinkPeriods.lean ====
section
/-!
DEFINITION. The service link's own events: FRAME_ERROR (R163), REPEAT_FRAME (R166), FETCH_PERIOD (R167, R174),
UNKNOWN_COMMAND (R177), and IDENTIFY (R175, R186); and what SDO carries at every instant of every period (R158, R159, R167,
R169, R174).
-/

namespace Sys2Proof.Machine

/-- FRAME_ERROR: a command period whose frame is incomplete, too long or has a wrong CRC stores FRAMEERR and changes nothing
else (R163). Bits that spell no such frame are not in error. -/
def execFrameError (start : PeriodStart) (bits : List Bool) (s : State) : Host.Outcome State Fault Refusal :=
  .next (if linkListens start s = true ∧ readPeriod bits = .error then storeFrameErr s else s)

/-- REPEAT_FRAME: a frame whose toggle differs from the expected one; its code and payload are not looked at (R166). A frame
with the expected toggle is no repeat. -/
def execRepeatFrame (_code : BitVec 7) (f : Frame) (s : State) : Host.Outcome State Fault Refusal :=
  .next (receiveFrame f id s)

/-- UNKNOWN_COMMAND: a frame with an unknown code is answered UNKNOWN whatever its length (R177). A known code is none. -/
def execUnknownCommand (code : BitVec 7) (f : Frame) (s : State) : Host.Outcome State Fault Refusal :=
  .next (receiveFrame f (fun s => if isKnownCode code then s else respond f.toggle .unknown [] s) s)

/-- The bytes of a stored response frame (R161). -/
def responseBytes (r : LinkResponse) : List Byte := frameBytes r.toggle (statusCode r.status) r.payload

/-- The bit that a fetch period carries at place `i` after the marker byte: one of the frame's, and 0 past its end or when no
response is stored (R167). -/
def fetchBit (r : Option LinkResponse) (i : Nat) : Bool :=
  match r with
  | none => false
  | some r => (bitsOfBytes (responseBytes r)).getD i false

/-- The bits that a fetch period of `clocked` bits after the marker shifts out (R167). -/
def shiftedOut (r : Option LinkResponse) (clocked : Nat) : List Bool := (List.range clocked).map (fetchBit r)

/-! ## SDO (R158) -/

/-- SSELn at an instant and, while it is low, the period under way: where it began, the bits sampled on SDI since, and whether
SCLK has fallen since the last of them was sampled (R158). Bits clocked while SSELn is high are not taken, so they are in no
period. -/
inductive Select where
  | high
  | low (start : PeriodStart) (sampled : List Bool) (fallen : Bool)
  deriving DecidableEq, Repr

/-- What SDO does: it is at high impedance, or driven to a level (R158). -/
inductive Sdo where
  | highImpedance
  | driven (level : Bool)
  deriving DecidableEq, Repr

/-- Which bit of the period SDO carries: the first from the fall of SSELn, and each later one from the falling edge of SCLK that
follows the rising edge at which the bit before it was sampled (R158). -/
def sdoPlace (sampled : List Bool) (fallen : Bool) : Nat := if fallen then sampled.length else sampled.length - 1

/-- The level that SDO is driven to: low through the marker byte, through command periods and through ignored ones (R159); the
stored response in a fetch period that the link takes (R167); and low in any other fetch period (R169, R174). -/
def sdoLevel (s : State) (start : PeriodStart) (sampled : List Bool) (fallen : Bool) : Bool :=
  match readPeriod sampled with
  | .fetch _ =>
    linkListens start s && decide (8 ≤ sdoPlace sampled fallen) &&
      fetchBit s.link.fetchResponse (sdoPlace sampled fallen - 8)
  | .ignored | .error | .frame _ _ _ => false

/-- SDO: at high impedance while SSELn is high (R158) and while PORn is low, whatever SSELn does (R169); driven otherwise. -/
def sdo (s : State) : Select → Sdo
  | .high => .highImpedance
  | .low start sampled fallen => if s.porn then .driven (sdoLevel s start sampled fallen) else .highImpedance

/-! ## Fetch periods -/

/-- The period shifts out every bit of the frame through its CRC (R167). -/
def fetchesWhole (r : LinkResponse) (clocked : Nat) : Bool := decide (8 * (responseBytes r).length ≤ clocked)

/-- FETCH_PERIOD: the fetch-response is shifted out, and emptied if the whole of it was (R167). From step 1 to step 4 of a
soft reset, and in a period begun then, SDO carries zeros and nothing is emptied (R174). A period that PORn cuts is not
taken (R169). -/
def execFetchPeriod (start : PeriodStart) (clocked : Nat) (s : State) : Host.Outcome State Fault Refusal :=
  .next
    (whilePowered
      (fun s =>
        match start with
        | .acrossPorn => s
        | .inQuiesce => { s with link := { s.link with shifted := List.replicate clocked false } }
        | .live =>
          if quiescing s then { s with link := { s.link with shifted := List.replicate clocked false } }
          else
            { s with
              link :=
                { s.link with
                  shifted := shiftedOut s.link.fetchResponse clocked
                  fetchResponse := s.link.fetchResponse.filter fun r => !fetchesWhole r clocked } })
      s)

/-- IDENTIFY: vendor code 0xAD, part code 0x0420, revision 3 (R175, R186). -/
def execIdentify (f : Frame) (s : State) : Host.Outcome State Fault Refusal :=
  .next (execCommand f 0 false (fun s => accept [0xAD, 0x04, 0x20, 0x03] s) s)

end Sys2Proof.Machine
end

