-- ==== Sys2Proof/Machine/MemoryPort.lean ====
section
/-!
DEFINITION. The M-port's events: ISSUE_GRANT and OPERATION_ACCEPTED (R13), and ANSWER (R14, R61, R62, R70, R71, R120 to R122,
R129).
-/

namespace Sys2Proof.Machine

/-- The operation that a host entry issues in its present phase (R12, R61, R62). -/
def hostOperation (e : HostEntry) : Option Operation :=
  let forward (kind : OpKind) (mask : Option (BitVec 32)) (data : Option LineData) : Operation :=
    { kind := kind, entry := .host e.id, line := requestLine e.request, first := requestFirst e.request
      count := e.request.count.toNat, mask := mask, data := data }
  match e.phase with
  | .mem =>
    match e.request.kind with
    | .read => some (forward .fwdRead none none)
    | .write => some (forward .fwdWrite (some e.request.mask) (some e.request.data))
  | .pre =>
    some { kind := .preRead, entry := .host e.id, line := requestLine e.request, first := 0, count := 8, mask := none, data := none }
  | .wr => some (forward .fwdWrite (some e.request.mask) (some e.request.data))
  | .answer _ => none

/-- The RESTORE of the restore entry: the whole line, all 32 mask bits set, the pre-image as data (R12, R119). -/
def restoreOperation (e : RestoreEntry) : Operation :=
  { kind := .restore, entry := .restore, line := e.line, first := 0, count := 8, mask := some (BitVec.allOnes 32)
    data := some e.preImage }

/-- What the issue arbiter grants: the restore entry if it is ready, else the ready host entry created earliest (R13). -/
def arbiterChoice (s : State) : Option Operation :=
  match s.tracker.restore with
  | some e =>
    if e.op = .toIssue then some (restoreOperation e)
    else (s.tracker.hosts.find? fun e => e.op = .toIssue).bind hostOperation
  | none => (s.tracker.hosts.find? fun e => e.op = .toIssue).bind hostOperation

/-- ISSUE_GRANT: outside the quiet interval, when no operation is presented and an entry is ready, its operation is
presented (R13, R17). Otherwise nothing is granted. -/
def execIssueGrant (s : State) : Host.Outcome State Fault Refusal :=
  .next
    (whilePowered
      (fun s =>
        if s.mport.presented.isNone && s.mport.quietSince.isNone then
          { s with mport := { s.mport with presented := arbiterChoice s } }
        else s)
      s)

/-- The operation of an entry becomes outstanding (R13). -/
def markOutstanding (entry : EntryId) (t : Tracker) : Tracker :=
  match entry with
  | .host id => { t with hosts := t.hosts.map fun e => if e.id = id then { e with op := .outstanding } else e }
  | .restore => { t with restore := t.restore.map fun e => { e with op := .outstanding } }

/-- OPERATION_ACCEPTED: the memory controller accepts the operation presented, which becomes outstanding (R13). With none
presented there is nothing to accept. -/
def execOperationAccepted (s : State) : Host.Outcome State Fault Refusal :=
  .next
    (whilePowered
      (fun s =>
        match s.mport.presented with
        | none => s
        | some op =>
          { s with mport := { s.mport with presented := none }, tracker := markOutstanding op.entry s.tracker })
      s)

/-- The host entry with this identity becomes `e` (R60). -/
def setHost (e : HostEntry) (s : State) : State :=
  { s with tracker := { s.tracker with hosts := s.tracker.hosts.map fun e' => if e'.id = e.id then e else e' } }

/-- A host entry moves to ANSWER with this outcome, ready at once (R61, R62). -/
def answerHost (e : HostEntry) (result : Result) (s : State) : State :=
  bumpReady (setHost { e with phase := .answer ⟨result, e.region, s.readySeq⟩, op := .idle } s)

/-- The response to a FWD-READ or FWD-WRITE: OKAY, a READ with the count words of the answer, or MEMFAULT with reason
MEM_FAULT (R61, R62). -/
def forwardResult (r : Request) : MemAnswer → Result
  | .ok lanes =>
    match r.kind with
    | .read => .okay (lanes.toList.take r.count.toNat)
    | .write => .okay []
  | .error => .failed .memFault

/-- The record position that a JWRITE entry hands the journal with the answer to its PRE-READ (R62). -/
def settleEntryRecord (e : HostEntry) (a : MemAnswer) (s : State) : State :=
  match e.kind with
  | .jwrite position _ => settleRecord position a s
  | .read | .write => s

/-- The answer to the operation of a host entry (R61, R62). After a PRE-READ the journal settles the record, the entry goes
on to WR or answers PRE_READ_FAULT, and the engine tests the drain condition (R70, R71, R115). -/
def hostAnswered (e : HostEntry) (a : MemAnswer) (s : State) : State :=
  match e.phase with
  | .mem | .wr => answerHost e (forwardResult e.request a) s
  | .pre =>
    match a with
    | .ok _ => drainTest (settleEntryRecord e a (setHost { e with phase := .wr, op := .toIssue } s))
    | .error => drainTest (settleEntryRecord e a (answerHost e (.failed .preReadFault) s))
  | .answer _ => s

/-- The engine enters FAILED: span, cursor and retry are dropped, RBFAIL is set, the ROLLBACK waiters are released (R122). -/
def failRestore (s : State) : State :=
  release .engineLeft (setFlag .rbfail { s with engine := { s.engine with state := .failed, span := none, retry := false } })

/-- The answer to a RESTORE, the restore entry having become free. OK frees the record at the tail and the engine goes on
(R120), but a stopping engine only frees it (R129). A first ERROR hands the same RESTORE out again with retry set (R121), a
second sends the engine to FAILED (R122); a stopping engine does neither (R129). -/
def restoreAnswered (e : RestoreEntry) (a : MemAnswer) (s : State) : State :=
  match a with
  | .ok _ =>
    let s' := freeAtTail 1 { s with engine := { s.engine with retry := false } }
    if s.engine.stopping then s' else continueRestore s'
  | .error =>
    if s.engine.stopping then { s with engine := { s.engine with retry := false } }
    else if s.engine.retry then failRestore s
    else
      { s with
        engine := { s.engine with retry := true }
        tracker := { s.tracker with restore := some { e with op := .toIssue } } }

/-- ANSWER: an answer that names an entry with an operation outstanding completes that operation (R14); any other is
discarded, and so is every answer while PORn is low or during the quiet interval (R15). -/
def execAnswer (identity : Fin 16) (a : MemAnswer) (s : State) : Host.Outcome State Fault Refusal :=
  .next
    (whilePowered
      (fun s =>
        if s.mport.quietSince.isSome then s
        else
          match entryOfIdentity identity with
          | none => s
          | some (.host id) =>
            match s.tracker.hosts.find? fun e => e.id = id ∧ e.op = .outstanding with
            | none => s
            | some e => settleQuiesce (offerNext (hostAnswered e a s))
          | some .restore =>
            match s.tracker.restore with
            | none => s
            | some e =>
              if e.op = .outstanding then
                settleQuiesce (restoreAnswered e a { s with tracker := { s.tracker with restore := none } })
              else s)
      s)

end Sys2Proof.Machine
end

