-- ==== Sys2Proof/Machine/Params.lean ====
section
/-!
DEFINITION. READ_PARAM (R188) and the eight rows of WRITE-PARAM (R189), each with the effect its owning rule gives.
-/

namespace Sys2Proof.Machine

/-- The parameters (R187). -/
inductive Param where
  | defaultPolicy
  | fullAction
  | jhighLevel
  | waitLimit
  | dlEnable
  | dlPeriod
  | dlTarget
  | eventEnable
  deriving DecidableEq, Repr

/-- The parameter of an identifier byte; 0 and 9 to 255 are unknown (R187). -/
def paramOfByte (b : Byte) : Option Param :=
  match b.toNat with
  | 1 => some .defaultPolicy
  | 2 => some .fullAction
  | 3 => some .jhighLevel
  | 4 => some .waitLimit
  | 5 => some .dlEnable
  | 6 => some .dlPeriod
  | 7 => some .dlTarget
  | 8 => some .eventEnable
  | _ => none

/-- The largest value of a parameter's range; every range begins at 0 (R187). -/
def paramMax : Param → Nat
  | .defaultPolicy => 1
  | .fullAction => 1
  | .jhighLevel => 1024
  | .waitLimit => 15
  | .dlEnable => 1
  | .dlPeriod => 10
  | .dlTarget => 1
  | .eventEnable => 511

/-- A parameter's value as the 16-bit value field carries it (R187). -/
def paramValue (p : Params) : Param → Nat
  | .defaultPolicy =>
    match p.defaultPolicy with
    | .pass => 0
    | .refuse => 1
  | .fullAction =>
    match p.fullAction with
    | .wait => 0
    | .refuse => 1
  | .jhighLevel => p.jhighLevel
  | .waitLimit => p.waitLimit
  | .dlEnable => if p.dlEnable then 1 else 0
  | .dlPeriod => p.dlPeriod
  | .dlTarget =>
    match p.dlTarget with
    | .newest => 0
    | .oldest => 1
  | .eventEnable => p.eventEnable.toNat

/-- The response of READ-PARAM and WRITE-PARAM: the identifier, then the value now in force (R188, R189). -/
def paramPayload (identifier : Byte) (value : Nat) : List Byte := identifier :: bytes16 (BitVec.ofNat 16 value)

/-- READ-PARAM's own check and answer (R188). -/
def readParamReply (identifier : Byte) (s : State) : Reply :=
  match paramOfByte identifier with
  | none => refuse .badArg s
  | some p => accept (paramPayload identifier (paramValue s.params p)) s

/-- READ_PARAM (R188). -/
def execReadParam (f : Frame) (s : State) : Host.Outcome State Fault Refusal :=
  .next (execCommand f 1 false (readParamReply (payloadByte f 0)) s)

/-- A frame with the expected toggle names another parameter than `p`: it is another row's command. -/
def namesAnother (p : Param) (f : Frame) : Bool :=
  decide (f.payload.length = 3) && (paramOfByte (payloadByte f 0)).any fun q => q ≠ p

/-- WRITE-PARAM's own checks and effect for the parameter `p`: an unknown identifier or a value outside the range is refused
BADARG; an accepted write stores the value, has its owning rule's effect and answers the value now in force (R189). -/
def writeParamReply (p : Param) (store : Nat → State → State) (f : Frame) (s : State) : Reply :=
  if paramOfByte (payloadByte f 0) = none ∨ paramMax p < (payload16 f 1).toNat then refuse .badArg s
  else accept (paramPayload (payloadByte f 0) (payload16 f 1).toNat) (store (payload16 f 1).toNat s)

/-- A WRITE-PARAM frame of the row of `p`: its 3 payload bytes are the identifier and the value (R189). A frame that names
another parameter is not of this row and changes nothing (notes/assumptions/6.md). -/
def writeParam (p : Param) (store : Nat → State → State) (f : Frame) (s : State) : State :=
  if namesAnother p f = true ∧ f.toggle = s.link.expected then s
  else execCommand f 3 false (writeParamReply p store f) s

/-- An accepted write of DEFAULT_POLICY releases every wait-list entry, whether or not the value changes (R23). -/
def storeDefaultPolicy (v : Nat) (s : State) : State :=
  release .everything { s with params := { s.params with defaultPolicy := if v = 0 then .pass else .refuse } }

/-- An accepted write of FULL_ACTION releases the JFULL waiters when it replaces WAIT by REFUSE (R84). -/
def storeFullAction (v : Nat) (s : State) : State :=
  let s' := { s with params := { s.params with fullAction := if v = 0 then .wait else .refuse } }
  if s.params.fullAction = .wait ∧ v ≠ 0 then release .journal s' else s'

/-- An accepted write of JHIGH_LEVEL does not set JHIGH (R82). -/
def storeJhighLevel (v : Nat) (s : State) : State := { s with params := { s.params with jhighLevel := v } }

/-- An accepted write of WAIT_LIMIT changes no expiry and releases nothing (R55). -/
def storeWaitLimit (v : Nat) (s : State) : State := { s with params := { s.params with waitLimit := v } }

/-- The deadline timer at a change of DL_ENABLE: off turns it OFF; on leaves it OFF at depth 0, and else restarts it with the
engine IDLE or makes it SUSPENDED (R138). -/
def timerAtEnable (s : State) : State :=
  if s.params.dlEnable = false then stopTimer s
  else if depth s = 0 then s
  else if s.engine.state = .idle then restartTimer s
  else suspendTimer s

/-- An accepted write of DL_ENABLE; a write of the value in force changes nothing (R138). -/
def storeDlEnable (v : Nat) (s : State) : State :=
  if s.params.dlEnable = decide (v ≠ 0) then s
  else timerAtEnable { s with params := { s.params with dlEnable := decide (v ≠ 0) } }

/-- An accepted write of DL_PERIOD leaves the period in force (R139). -/
def storeDlPeriod (v : Nat) (s : State) : State := { s with params := { s.params with dlPeriod := v } }

/-- An accepted write of DL_TARGET (R139). -/
def storeDlTarget (v : Nat) (s : State) : State :=
  { s with params := { s.params with dlTarget := if v = 0 then .newest else .oldest } }

/-- An accepted write of EVENT_ENABLE replaces the whole mask (R149). -/
def storeEventEnable (v : Nat) (s : State) : State :=
  { s with params := { s.params with eventEnable := BitVec.ofNat 9 v } }

/-- WRITE_DEFAULT_POLICY (R23, R189). -/
def execWriteDefaultPolicy (f : Frame) (s : State) : Host.Outcome State Fault Refusal :=
  .next (writeParam .defaultPolicy storeDefaultPolicy f s)

/-- WRITE_FULL_ACTION (R84, R189). -/
def execWriteFullAction (f : Frame) (s : State) : Host.Outcome State Fault Refusal :=
  .next (writeParam .fullAction storeFullAction f s)

/-- WRITE_JHIGH_LEVEL (R82, R189). -/
def execWriteJhighLevel (f : Frame) (s : State) : Host.Outcome State Fault Refusal :=
  .next (writeParam .jhighLevel storeJhighLevel f s)

/-- WRITE_WAIT_LIMIT (R55, R189). -/
def execWriteWaitLimit (f : Frame) (s : State) : Host.Outcome State Fault Refusal :=
  .next (writeParam .waitLimit storeWaitLimit f s)

/-- WRITE_DL_ENABLE (R138, R189). -/
def execWriteDlEnable (f : Frame) (s : State) : Host.Outcome State Fault Refusal :=
  .next (writeParam .dlEnable storeDlEnable f s)

/-- WRITE_DL_PERIOD (R139, R189). -/
def execWriteDlPeriod (f : Frame) (s : State) : Host.Outcome State Fault Refusal :=
  .next (writeParam .dlPeriod storeDlPeriod f s)

/-- WRITE_DL_TARGET (R139, R189). -/
def execWriteDlTarget (f : Frame) (s : State) : Host.Outcome State Fault Refusal :=
  .next (writeParam .dlTarget storeDlTarget f s)

/-- WRITE_EVENT_ENABLE (R149, R189). -/
def execWriteEventEnable (f : Frame) (s : State) : Host.Outcome State Fault Refusal :=
  .next (writeParam .eventEnable storeEventEnable f s)

end Sys2Proof.Machine
end

