-- ==== Sys2Proof/Machine/RegionCommands.lean ====
section
/-!
DEFINITION. The region commands: STAGE_REGION (R30), CLEAR_STAGED (R31), REVERT_STAGED (R32), APPLY_REGIONS (R35),
SET_REGION_STATE (R28) and READ_REGION (R36), with the layouts of R182.
-/

namespace Sys2Proof.Machine

/-- An edit of the staged table, after which staged-dirty is brought up to date (R20). -/
def editStaged (staged : Vector RegionEntry 12) (s : State) : State :=
  { s with regions := refreshDirty { s.regions with staged := staged } }

/-- The arguments of a STAGE-REGION payload when every check passes: index, base, limit and mode in range, and the limit not
below the base (R30). Any mask is accepted. -/
def stageArguments (f : Frame) : Option (RegionIndex × RegionEntry) :=
  match regionIndexOfByte (payloadByte f 0), lineOfField (payload32 f 1), lineOfField (payload32 f 5),
    modeOfByte (payloadByte f 9) with
  | some i, some base, some limit, some mode =>
    if base ≤ limit then some (i, ⟨true, base, limit, mode, payloadByte f 10⟩) else none
  | _, _, _, _ => none

/-- STAGE-REGION's checks and effect (R30). -/
def stageRegionReply (f : Frame) (s : State) : Reply :=
  match stageArguments f with
  | none => refuse .badArg s
  | some (i, e) => accept [] (editStaged (s.regions.staged.set i e) s)

/-- STAGE_REGION (R30). -/
def execStageRegion (f : Frame) (s : State) : Host.Outcome State Fault Refusal :=
  .next (execCommand f 11 false (stageRegionReply f) s)

/-- CLEAR-STAGED's check and effect (R31). -/
def clearStagedReply (f : Frame) (s : State) : Reply :=
  match regionIndexOfByte (payloadByte f 0) with
  | none => refuse .badArg s
  | some i => accept [] (editStaged (s.regions.staged.set i RegionEntry.invalid) s)

/-- CLEAR_STAGED (R31). -/
def execClearStaged (f : Frame) (s : State) : Host.Outcome State Fault Refusal :=
  .next (execCommand f 1 false (clearStagedReply f) s)

/-- REVERT_STAGED copies the active table into the staged one (R32). -/
def execRevertStaged (f : Frame) (s : State) : Host.Outcome State Fault Refusal :=
  .next (execCommand f 0 false (fun s => accept [] (editStaged s.regions.active s)) s)

/-- APPLY-REGIONS' checks and effect: BUSY unless the engine is IDLE, DEPTH above depth 0, else a promotion whether or not
staged-dirty is set (R35). -/
def applyRegionsReply (s : State) : Reply :=
  if s.engine.state ≠ .idle then refuse .busy s
  else if 0 < depth s then refuse .depth s
  else accept [] (promote s)

/-- APPLY_REGIONS (R35). -/
def execApplyRegions (f : Frame) (s : State) : Host.Outcome State Fault Refusal :=
  .next (execCommand f 0 false applyRegionsReply s)

/-- The software state of an index is set; if it differs from the old one, the HOLD waiters of the index are released
(R28). -/
def setSoftwareState (i : RegionIndex) (v : SoftwareState) (s : State) : State :=
  let s' := { s with regions := { s.regions with software := s.regions.software.set i v } }
  if s.regions.software.get i = v then s' else release (.softwareState i) s'

/-- SET-REGION-STATE's checks and effect (R28). -/
def setRegionStateReply (f : Frame) (s : State) : Reply :=
  match regionIndexOfByte (payloadByte f 0), softwareStateOfByte (payloadByte f 1) with
  | some i, some v => accept [] (setSoftwareState i v s)
  | _, _ => refuse .badArg s

/-- SET_REGION_STATE (R28). -/
def execSetRegionState (f : Frame) (s : State) : Host.Outcome State Fault Refusal :=
  .next (execCommand f 2 false (setRegionStateReply f) s)

/-- A line address as a four-byte field (R180, R182). -/
def lineBytes (line : LineAddr) : List Byte := bytes32 (line.setWidth 32)

/-- The 12 bytes of READ-REGION (R182). -/
def regionPayload (e : RegionEntry) (v : SoftwareState) : List Byte :=
  [if e.valid then 0x01 else 0x00] ++ lineBytes e.base ++ lineBytes e.limit ++ [modeCode e.mode, e.mask, softwareStateCode v]

/-- The table that a table-select byte names (R181). -/
def tableOfByte (g : Regions) (b : Byte) : Option (Vector RegionEntry 12) :=
  match b.toNat with
  | 0 => some g.active
  | 1 => some g.staged
  | _ => none

/-- READ-REGION's checks and answer (R36). -/
def readRegionReply (f : Frame) (s : State) : Reply :=
  match regionIndexOfByte (payloadByte f 0), tableOfByte s.regions (payloadByte f 1) with
  | some i, some table => accept (regionPayload (table.get i) (s.regions.software.get i)) s
  | _, _ => refuse .badArg s

/-- READ_REGION changes nothing of the part (R36). -/
def execReadRegion (f : Frame) (s : State) : Host.Outcome State Fault Refusal :=
  .next (execCommand f 2 false (readRegionReply f) s)

end Sys2Proof.Machine
end

