-- ==== Sys2Proof/Machine/Reports.lean ====
section
/-!
DEFINITION. The status, event and capture commands: READ_STATUS (R191), READ_EVENTS (R148), CLEAR_EVENTS (R147),
READ_CAPTURE (R154) and ACK_CAPTURE (R155), with the layouts of R185 and R191.
-/

namespace Sys2Proof.Machine

/-- Byte 0 of READ-STATUS (R191). -/
def statusByte (s : State) : Byte :=
  BitVec.ofBool (journalIsReady s) ++ BitVec.ofBool s.engine.lostrb ++ BitVec.ofBool s.events.capture.isSome ++
    BitVec.ofBool s.regions.dirty ++ engineCode s.engine.state ++ timerCode s.timer.state

/-- A mask of event flags as a two-byte value (R180). -/
def flagBytes (m : BitVec 9) : List Byte := bytes16 (m.setWidth 16)

/-- The 16 bytes of READ-STATUS (R191). -/
def statusPayload (s : State) : List Byte :=
  [statusByte s, BitVec.ofNat 8 (depth s)] ++ bytes16 (currentEpoch s) ++ bytes16 s.stack.nextEpoch ++
    bytes16 (BitVec.ofNat 16 s.journal.head) ++ bytes16 (BitVec.ofNat 16 (tail s.journal)) ++
    bytes16 (BitVec.ofNat 16 (occupancy s.journal)) ++
    [BitVec.ofNat 8 s.admission.waitList.length, BitVec.ofNat 8 s.tracker.hosts.length] ++ flagBytes s.events.flags

/-- READ_STATUS changes nothing of the part (R191). -/
def execReadStatus (f : Frame) (s : State) : Host.Outcome State Fault Refusal :=
  .next (execCommand f 0 false (fun s => accept (statusPayload s) s) s)

/-- READ_EVENTS returns the flags and EVENT_ENABLE and changes nothing of the part (R148, R185). -/
def execReadEvents (f : Frame) (s : State) : Host.Outcome State Fault Refusal :=
  .next (execCommand f 0 false (fun s => accept (flagBytes s.events.flags ++ flagBytes s.params.eventEnable) s) s)

/-- Clearing the flags whose bits are set in the mask (R147). -/
def clearFlags (mask : BitVec 9) (s : State) : State :=
  { s with events := { s.events with flags := s.events.flags &&& ~~~mask } }

/-- CLEAR-EVENTS' own check and effect: a mask with a bit above index 8 is refused BADARG (R147). -/
def clearEventsReply (mask : BitVec 16) (s : State) : Reply :=
  if 511 < mask.toNat then refuse .badArg s
  else
    let s' := clearFlags (mask.setWidth 9) s
    accept (flagBytes s'.events.flags) s'

/-- CLEAR_EVENTS (R147, R185). -/
def execClearEvents (f : Frame) (s : State) : Host.Outcome State Fault Refusal :=
  .next (execCommand f 2 false (clearEventsReply (payload16 f 0)) s)

/-- The 14 bytes of the capture record; an invalid one is zero with region index 0xFF (R151, R181, R185). -/
def capturePayload : Option Capture → List Byte
  | none => [0x00, 0x00, 0x00, 0x00, 0x00, 0x00, 0x00, 0x00, 0x00, 0x00, 0xFF, 0x00, 0x00, 0x00]
  | some c =>
    [0x01, reasonCode c.reason, hostStatusCode (reasonStatus c.reason), BitVec.ofNat 8 c.initiator.val,
      BitVec.ofNat 8 c.tag.val, kindCode c.kind] ++
      bytes32 (byteAddress c.address) ++ [regionCode c.region] ++ bytes16 c.epoch ++ [BitVec.ofNat 8 c.further]

/-- READ_CAPTURE returns the capture record and changes nothing of the part (R154). -/
def execReadCapture (f : Frame) (s : State) : Host.Outcome State Fault Refusal :=
  .next (execCommand f 0 false (fun s => accept (capturePayload s.events.capture) s) s)

/-- ACK_CAPTURE returns the capture record as it stands and makes it invalid (R155). -/
def execAckCapture (f : Frame) (s : State) : Host.Outcome State Fault Refusal :=
  .next
    (execCommand f 0 false
      (fun s => accept (capturePayload s.events.capture) { s with events := { s.events with capture := none } })
      s)

end Sys2Proof.Machine
end

