-- ==== Sys2Proof/Machine/Reset.lean ====
section
/-!
DEFINITION. Power-on and soft reset: PORN_ASSERT (R16), PORN_RELEASE and QUIET_INTERVAL_END (R17), JOURNAL_READY (R87),
SOFT_RESET (R170 to R172) and SOFT_RESET_STEP_4 (R173).
-/

namespace Sys2Proof.Machine

/-- PORN_ASSERT: the ports drop what they hold, requests in custody are lost, and every block stops (R16, R65, R85, R110,
R156). PORn already low stays low. -/
def execPornAssert (s : State) : Host.Outcome State Fault Refusal := .next (whilePowered powerOffValues s)

/-- PORN_RELEASE: every block takes its power-on values, and the initialisation and the quiet interval begin (R17, R85,
R169). PORn already high stays high. -/
def execPornRelease (s : State) : Host.Outcome State Fault Refusal := .next (if s.porn then s else powerOnValues s)

/-- The quiet interval has lasted 64 µs (R17). -/
def quietIntervalDue (s : State) : Bool :=
  s.porn && s.mport.quietSince.any fun t => decide (t + Config.quietInterval ≤ s.now)

/-- QUIET_INTERVAL_END: from then on the arbiter grants and answers are taken (R17). Before 64 µs it does not end. -/
def execQuietIntervalEnd (s : State) : Host.Outcome State Fault Refusal :=
  .next (if quietIntervalDue s then { s with mport := { s.mport with quietSince := none } } else s)

/-- The initialisation has lasted 128 µs (R85). -/
def initialisationDue (s : State) : Bool :=
  match s.journal.readiness with
  | .initialising t => s.porn && decide (t + Config.initDuration ≤ s.now)
  | .ready | .notReady => false

/-- JOURNAL_READY: the journal becomes READY, empty with head 0, and sets READY (R87). Before 128 µs it does not. -/
def execJournalReady (s : State) : Host.Outcome State Fault Refusal :=
  .next
    (if initialisationDue s then setFlag .ready { s with journal := { readiness := .ready, head := 0, ring := [] } } else s)

/-- The answer REFUSED RESET (R172). -/
def resetReady (seq : Nat) (region : Option RegionIndex) : Ready := ⟨.failed .reset, region, seq⟩

/-- An intake request that is not already answering becomes answering with REFUSED RESET (R172). -/
def resetIntakeEntry (seq : Nat) (region : Option RegionIndex) (e : IntakeEntry) : IntakeEntry :=
  if e.answering.isSome then e else { e with answering := some (resetReady seq region) }

/-- Step 2 in the intake queue: region index none, except a held head's, which is that of its last examination (R59, R152). -/
def resetIntake (seq : Nat) (held : Option HeldHead) : List IntakeEntry → List IntakeEntry
  | [] => []
  | e :: rest => resetIntakeEntry seq (held.bind HeldHead.region) e :: rest.map (resetIntakeEntry seq none)

/-- Step 2 in the wait list: REFUSED RESET with the recorded region index unless already answering, and no release mark (R59,
R172). -/
def resetWaitEntry (seq : Nat) (e : WaitEntry) : WaitEntry :=
  if e.answering.isSome then { e with released := false }
  else { e with released := false, answering := some (resetReady seq e.region) }

/-- An initialisation under way is abandoned at step 1; a READY journal stays READY until step 4 (R86). -/
def abandonInitialisation : Readiness → Readiness
  | .ready => .ready
  | .initialising _ | .notReady => .notReady

/-- Steps 1 and 2 of a soft reset whose frame carried this toggle (R171, R172), and step 4 in the same event when the part
holds nothing (R173). -/
def beginSoftReset (toggle : Bool) (s : State) : State :=
  settleQuiesce
    (offerNext
      (bumpReady
        { s with
          hport := { s.hport with intake := resetIntake s.readySeq s.admission.held s.hport.intake }
          admission :=
            { s.admission with waitList := s.admission.waitList.map (resetWaitEntry s.readySeq), held := none }
          journal := { s.journal with readiness := abandonInitialisation s.journal.readiness }
          engine :=
            { s.engine with
              lostrb := s.engine.lostrb || decide (s.engine.state ≠ .idle)
              stopping := decide (s.engine.state = .drain ∨ s.engine.state = .restore) }
          timer := { s.timer with state := .off, elapsed := 0, divider := 0 }
          link := { s.link with fetchResponse := none, quiesce := some toggle } }))

/-- SOFT_RESET: no payload, else BADLENGTH; no response is built at execution and the expected toggle is not flipped (R170). -/
def execSoftReset (f : Frame) (s : State) : Host.Outcome State Fault Refusal :=
  .next
    (receiveFrame f
      (fun s => if f.payload.length ≠ 0 then respond f.toggle .badLength [] s else beginSoftReset f.toggle s)
      s)

/-- SOFT_RESET_STEP_4: the step as an event of its own. It is taken if the quiesce is under way and its conditions hold
(R173); notes/assumptions/7.md says when that is. -/
def execSoftResetStep4 (s : State) : Host.Outcome State Fault Refusal := .next (whilePowered settleQuiesce s)

end Sys2Proof.Machine
end

