-- ==== Sys2Proof/Machine/Dispatch.lean ====
section
/-!
DEFINITION. The dispatch of a command to its meaning: one arm per row of spec/opcode_table.json, in the table's order.
-/

namespace Sys2Proof.Machine

/-- The effect of a command on everything but the queue. -/
def exec (i : Instr) (s : State) : Host.Outcome State Fault Refusal :=
  match i with
  | .takeRequest r => Sys2Proof.Machine.execTakeRequest r s
  | .responseTaken => Sys2Proof.Machine.execResponseTaken s
  | .examination => Sys2Proof.Machine.execExamination s
  | .waitExpiry place => Sys2Proof.Machine.execWaitExpiry place s
  | .issueGrant => Sys2Proof.Machine.execIssueGrant s
  | .operationAccepted => Sys2Proof.Machine.execOperationAccepted s
  | .answer identity a => Sys2Proof.Machine.execAnswer identity a s
  | .pornAssert => Sys2Proof.Machine.execPornAssert s
  | .pornRelease => Sys2Proof.Machine.execPornRelease s
  | .quietIntervalEnd => Sys2Proof.Machine.execQuietIntervalEnd s
  | .journalReady => Sys2Proof.Machine.execJournalReady s
  | .firstExpiry => Sys2Proof.Machine.execFirstExpiry s
  | .secondExpiry => Sys2Proof.Machine.execSecondExpiry s
  | .frameError start bits => Sys2Proof.Machine.execFrameError start bits s
  | .repeatFrame code f => Sys2Proof.Machine.execRepeatFrame code f s
  | .fetchPeriod start clocked => Sys2Proof.Machine.execFetchPeriod start clocked s
  | .unknownCommand code f => Sys2Proof.Machine.execUnknownCommand code f s
  | .identify f => Sys2Proof.Machine.execIdentify f s
  | .readStatus f => Sys2Proof.Machine.execReadStatus f s
  | .readEvents f => Sys2Proof.Machine.execReadEvents f s
  | .clearEvents f => Sys2Proof.Machine.execClearEvents f s
  | .readCapture f => Sys2Proof.Machine.execReadCapture f s
  | .ackCapture f => Sys2Proof.Machine.execAckCapture f s
  | .readParam f => Sys2Proof.Machine.execReadParam f s
  | .writeDefaultPolicy f => Sys2Proof.Machine.execWriteDefaultPolicy f s
  | .writeFullAction f => Sys2Proof.Machine.execWriteFullAction f s
  | .writeJhighLevel f => Sys2Proof.Machine.execWriteJhighLevel f s
  | .writeWaitLimit f => Sys2Proof.Machine.execWriteWaitLimit f s
  | .writeDlEnable f => Sys2Proof.Machine.execWriteDlEnable f s
  | .writeDlPeriod f => Sys2Proof.Machine.execWriteDlPeriod f s
  | .writeDlTarget f => Sys2Proof.Machine.execWriteDlTarget f s
  | .writeEventEnable f => Sys2Proof.Machine.execWriteEventEnable f s
  | .stageRegion f => Sys2Proof.Machine.execStageRegion f s
  | .clearStaged f => Sys2Proof.Machine.execClearStaged f s
  | .revertStaged f => Sys2Proof.Machine.execRevertStaged f s
  | .applyRegions f => Sys2Proof.Machine.execApplyRegions f s
  | .setRegionState f => Sys2Proof.Machine.execSetRegionState f s
  | .readRegion f => Sys2Proof.Machine.execReadRegion f s
  | .mark f => Sys2Proof.Machine.execMark f s
  | .release f => Sys2Proof.Machine.execRelease f s
  | .rollback f => Sys2Proof.Machine.execRollback f s
  | .discard f => Sys2Proof.Machine.execDiscard f s
  | .readCheckpoints f => Sys2Proof.Machine.execReadCheckpoints f s
  | .readJournal f => Sys2Proof.Machine.execReadJournal f s
  | .softReset f => Sys2Proof.Machine.execSoftReset f s
  | .softResetStep4 => Sys2Proof.Machine.execSoftResetStep4 s

end Sys2Proof.Machine
end

