-- ==== Sys2Proof/Machine/Time.lean ====
section
/-!
DEFINITION. TBCLK time (R135, R17, R56, R85): which time-driven event is due, and one period of TBCLK. The table has no row
for the clock: the step takes these when no command waits (notes/assumptions/4.md).
-/

namespace Sys2Proof.Machine

/-- The first place of the wait list whose entry's expiry is due (R56). -/
def expiredPlace (s : State) : Option (Fin 16) := (List.finRange 16).find? fun k => expiryDue k.val s

/-- The time-driven event that is due, if there is one. -/
def dueEvent (s : State) : Option Instr :=
  if quietIntervalDue s then some .quietIntervalEnd
  else if initialisationDue s then some .journalReady
  else
    match expiredPlace s with
    | some k => some (.waitExpiry k)
    | none =>
      if s.porn = true ∧ firstExpiryDue s = true then some .firstExpiry
      else if s.porn = true ∧ secondExpiryDue s = true then some .secondExpiry
      else none

/-- The timer counts in RUNNING and WARNED: a divider of 1,000 TBCLK periods to a millisecond (R133, R135). -/
def tickTimer (t : Timer) : Timer :=
  match t.state with
  | .running | .warned =>
    if t.divider + 1 = Config.microsPerMilli then { t with elapsed := t.elapsed + 1, divider := 0 }
    else { t with divider := t.divider + 1 }
  | .off | .suspended => t

/-- One period of TBCLK, 1 µs, passes. -/
def tick (s : State) : State := { s with now := s.now + 1, timer := tickTimer s.timer }

end Sys2Proof.Machine
end

