-- ==== Sys2Proof/Machine/Step.lean ====
section
/-!
DEFINITION. One step: the command at the front of the queue is executed, or, when none waits, the time-driven event that is
due is taken, or 1 µs of TBCLK time passes (notes/assumptions/4.md).
-/

namespace Sys2Proof.Machine

/-- One step of the part. -/
def step (s : State) : Host.Outcome State Fault Refusal :=
  match s.pending with
  | c :: rest => exec c { s with pending := rest }
  | [] =>
    match dueEvent s with
    | some c => exec c s
    | none => .next (tick s)

/-- `s` with the command that the word spells at the front of its queue; unchanged when the word spells none, as every word
does, since spec/opcode_table.json gives no row any bits. -/
def State.withFetchWord (s : State) (nbits w : Nat) : State :=
  match decodeTableWord nbits w with
  | none => s
  | some c => { s with pending := c :: s.pending }

end Sys2Proof.Machine
end

