-- ==== Sys2Proof/Safety.lean ====
section
/-!
DEFINITION. What a sound state of the part is, in the terms the statements use: the capacities of the queues, the custody
of requests, the order of the tracker, the records and marks of the journal, the deadline timer and the parameters; and the
premises of the service commands.
-/

namespace Sys2Proof.Machine

/-! ## Invariants -/

/-- Nothing is fuller than its block: 8 intake requests (R5), 16 wait-list entries (R52), 1024 journal positions with the
head among them (R66), 4 checkpoints (R90), a further count of 255 (R153). -/
def withinCapacity (s : State) : Prop :=
  s.hport.intake.length ≤ 8 ∧ s.admission.waitList.length ≤ 16 ∧ occupancy s.journal ≤ 1024 ∧ s.journal.head < 1024 ∧
    depth s ≤ 4 ∧ ∀ c, s.events.capture = some c → c.further ≤ 255

/-- No two host entries in use have the same identity or the same line (R60). -/
def trackerOrderly (s : State) : Prop :=
  (s.tracker.hosts.map HostEntry.id).Nodup ∧ (s.tracker.hosts.map fun e => requestLine e.request).Nodup

/-- The pairs of the requests in custody: in the intake queue, the wait list and the host entries (R10). -/
def custodyPairs (s : State) : List Pair :=
  (s.hport.intake.map fun e => requestPair e.request) ++ (s.admission.waitList.map fun e => requestPair e.request) ++
    s.tracker.hosts.map fun e => requestPair e.request

/-- The outstanding set has no duplicates and holds exactly the pairs of the requests in custody, each held once (R6, R10). -/
def custodyExact (s : State) : Prop :=
  trackerOrderly s ∧ s.hport.outstanding.Nodup ∧ s.hport.outstanding.Perm (custodyPairs s)

/-- The line and epoch of every RESERVED or VALID record between head and tail (R73). -/
def protectedKeys (j : Journal) : List (LineAddr × Epoch) :=
  j.ring.filterMap fun slot => slot.bind fun r => if protects r then some (r.line, r.epoch) else none

/-- For any line and epoch at most one record is RESERVED or VALID (R73). -/
def recordsUnique (s : State) : Prop := (protectedKeys s.journal).Nodup

/-- The `d` newest positions between head and tail. -/
def newestSlots (j : Journal) (d : Nat) : List (Option Record) := j.ring.drop (j.ring.length - d)

/-- While the journal is NOT READY it is empty with head 0 and no checkpoint is open (R85, R86). -/
def emptyUnlessReady (s : State) : Prop :=
  s.journal.readiness ≠ .ready → s.journal.ring = [] ∧ s.journal.head = 0 ∧ s.stack.checkpoints = []

/-- The epochs of the open checkpoints are distinct and not 0, and the next-epoch counter is neither 0 nor one of them (R90,
R93). -/
def epochsDistinct (s : State) : Prop :=
  (s.stack.checkpoints.map Checkpoint.epoch).Nodup ∧ (0#16) ∉ s.stack.checkpoints.map Checkpoint.epoch ∧
    s.stack.nextEpoch ≠ 0#16 ∧ s.stack.nextEpoch ∉ s.stack.checkpoints.map Checkpoint.epoch

/-- Mark distances never grow from an older checkpoint to a newer one and are at most the occupancy, and each mark stands
its distance before the tail (R90, R91). -/
def marksInOrder (s : State) : Prop :=
  s.stack.checkpoints.Pairwise (fun older newer => newer.distance ≤ older.distance) ∧
    ∀ c ∈ s.stack.checkpoints,
      c.mark < 1024 ∧ c.distance ≤ occupancy s.journal ∧ (c.mark + c.distance) % 1024 = tail s.journal

/-- At and after an open mark stand only live records that are no orphans, and none of an older open epoch (R69, R80, R91,
R113). -/
def recordsAfterMarks (s : State) : Prop :=
  (∀ c ∈ s.stack.checkpoints, ∀ slot ∈ newestSlots s.journal c.distance, ∃ r, slot = some r ∧ r.state ≠ .reserved true) ∧
    s.stack.checkpoints.Pairwise fun older newer =>
      ∀ r, some r ∈ newestSlots s.journal newer.distance → r.epoch ≠ older.epoch

/-- A busy or failed engine has its target open; the restore entry is in use only in RESTORE, and then it serves the VALID
record before the tail, which every open mark precedes (R105, R118, R119). -/
def restoreInOrder (s : State) : Prop :=
  (s.engine.state ≠ .idle → s.stack.checkpoints ≠ []) ∧
    ∀ e, s.tracker.restore = some e →
      s.engine.state = .restore ∧ (∀ c ∈ s.stack.checkpoints, 1 ≤ c.distance) ∧
        ∃ r, s.journal.ring.getLast? = some (some r) ∧ r.state = .valid e.preImage ∧ r.line = e.line

/-- The stack, the journal and the restore engine agree (R69, R90, R91, R93, R113). -/
def marksConsistent (s : State) : Prop :=
  withinCapacity s ∧ emptyUnlessReady s ∧ epochsDistinct s ∧ marksInOrder s ∧ recordsAfterMarks s ∧ restoreInOrder s

/-- Every parameter holds a value of its range; DEFAULT_POLICY, FULL_ACTION, DL_ENABLE, DL_TARGET and EVENT_ENABLE can hold no
other (R187). -/
def paramsInRange (s : State) : Prop :=
  s.params.jhighLevel ≤ 1024 ∧ s.params.waitLimit ≤ 15 ∧ s.params.dlPeriod ≤ 10

/-- The deadline timer as R133 describes it: OFF or SUSPENDED it counts nothing; RUNNING or WARNED a checkpoint is open, the
engine IDLE and DL_ENABLE on; SUSPENDED a checkpoint is open, the engine not IDLE and DL_ENABLE on. -/
def timerAsDescribed (s : State) : Prop :=
  (s.timer.state = .off ∨ s.timer.state = .suspended → s.timer.elapsed = 0 ∧ s.timer.divider = 0) ∧
    (s.timer.state = .running ∨ s.timer.state = .warned →
      1 ≤ depth s ∧ s.engine.state = .idle ∧ s.params.dlEnable = true) ∧
    (s.timer.state = .suspended → 1 ≤ depth s ∧ s.engine.state ≠ .idle ∧ s.params.dlEnable = true)

/-- The timer's fields stay in their ranges (R133, R135). -/
def timerInRange (s : State) : Prop :=
  s.timer.elapsed ≤ s.timer.period ∧ s.timer.divider < 1000 ∧ 1 ≤ s.timer.period ∧ s.timer.period ≤ 1024

/-- What the timer's description leans on: a busy or failed engine has its target open; only an engine in RESTORE uses the
restore entry; with PORn low, and in a quiesce, the timer is OFF and a busy engine is stopping; a journal that is NOT READY
has no checkpoint open (R86, R105, R129, R144). -/
def timerSetting (s : State) : Prop :=
  (s.engine.state ≠ .idle → 1 ≤ depth s) ∧ (s.tracker.restore ≠ none → s.engine.state = .restore) ∧
    (s.porn = false → s.timer.state = .off) ∧
    (s.link.quiesce ≠ none →
      s.timer.state = .off ∧ (s.engine.state = .drain ∨ s.engine.state = .restore → s.engine.stopping = true)) ∧
    (s.journal.readiness ≠ .ready → depth s = 0)

/-- The deadline timer and all that it leans on are sound (R133, R142, R144). -/
def timerSound (s : State) : Prop :=
  paramsInRange s ∧ timerAsDescribed s ∧ timerInRange s ∧ timerSetting s

/-- The record at the head is RESERVED, VALID or VOID unless the journal is empty (R75). -/
def headIsLive (s : State) : Prop := s.journal.ring.head? ≠ some none

/-- An engine that is DRAIN and not stopping has its drain condition false, the first test that finds it true having moved it
to RESTORE; only an engine in RESTORE uses the restore entry; and none drains while the journal is NOT READY (R86, R115,
R119). -/
def drainTested (s : State) : Prop :=
  (s.tracker.restore ≠ none → s.engine.state = .restore) ∧ (s.journal.readiness ≠ .ready → s.engine.state ≠ .drain) ∧
    (s.engine.state = .drain → s.engine.stopping = false → drainHolds s = false)

/-- Staged-dirty is set exactly when the staged table differs from the active table (R20). -/
def dirtyExact (s : State) : Prop := s.regions.dirty = true ↔ s.regions.staged ≠ s.regions.active

/-- A valid entry has a base no greater than its limit, and an invalid entry holds its one fixed content (R19). -/
def entryProper (e : RegionEntry) : Prop := (e.valid = true → e.base ≤ e.limit) ∧ (e.valid = false → e = RegionEntry.invalid)

/-- Every entry of both region tables is as R19 says. -/
def tablesProper (s : State) : Prop :=
  ∀ i : RegionIndex, entryProper (s.regions.active.get i) ∧ entryProper (s.regions.staged.get i)

/-! ## Premises and conclusions about service commands -/

/-- The frame completes in a period that the link takes, with the expected toggle (R165, R169, R174). -/
def Receives (f : Frame) (s : State) : Prop :=
  s.porn = true ∧ s.link.quiesce = none ∧ f.start = .live ∧ f.toggle = s.link.expected

/-- The link after the execution of a frame: the response echoes its toggle and is both the repeat- and the fetch-response,
and the expected toggle is flipped (R165). -/
def answeredLink (f : Frame) (status : Status) (payload : List Byte) (l : Link) : Link :=
  { l with
    expected := !l.expected
    repeatResponse := ⟨f.toggle, status, payload⟩
    fetchResponse := some ⟨f.toggle, status, payload⟩ }

/-- The frame of a service command (R176); the rows of the other ports, of the clock and of the link itself have none. -/
def frameOf : Instr → Option Frame
  | .unknownCommand _ f | .identify f | .readStatus f | .readEvents f | .clearEvents f | .readCapture f | .ackCapture f => some f
  | .readParam f | .writeDefaultPolicy f | .writeFullAction f | .writeJhighLevel f | .writeWaitLimit f => some f
  | .writeDlEnable f | .writeDlPeriod f | .writeDlTarget f | .writeEventEnable f => some f
  | .stageRegion f | .clearStaged f | .revertStaged f | .applyRegions f | .setRegionState f | .readRegion f => some f
  | .mark f | .release f | .rollback f | .discard f | .readCheckpoints f | .readJournal f | .softReset f => some f
  | .takeRequest _ | .responseTaken | .examination | .waitExpiry _ | .issueGrant | .operationAccepted | .answer _ _ => none
  | .pornAssert | .pornRelease | .quietIntervalEnd | .journalReady | .firstExpiry | .secondExpiry | .softResetStep4 => none
  | .frameError _ _ | .repeatFrame _ _ | .fetchPeriod _ _ => none

/-- The payload length of a service command, as the table of R176 lists it. -/
def payloadLength : Instr → Option Nat
  | .identify _ | .readStatus _ | .readEvents _ | .readCapture _ | .ackCapture _ | .revertStaged _ | .applyRegions _ => some 0
  | .mark _ | .discard _ | .readCheckpoints _ | .softReset _ => some 0
  | .readParam _ | .clearStaged _ | .release _ => some 1
  | .clearEvents _ | .setRegionState _ | .readRegion _ | .rollback _ | .readJournal _ => some 2
  | .writeDefaultPolicy _ | .writeFullAction _ | .writeJhighLevel _ | .writeWaitLimit _ => some 3
  | .writeDlEnable _ | .writeDlPeriod _ | .writeDlTarget _ | .writeEventEnable _ => some 3
  | .stageRegion _ => some 11
  | .takeRequest _ | .responseTaken | .examination | .waitExpiry _ | .issueGrant | .operationAccepted | .answer _ _ => none
  | .pornAssert | .pornRelease | .quietIntervalEnd | .journalReady | .firstExpiry | .secondExpiry | .softResetStep4 => none
  | .frameError _ _ | .repeatFrame _ _ | .fetchPeriod _ _ | .unknownCommand _ _ => none

/-- The five journal-dependent commands (R86, R176). -/
def journalDependent : Instr → Prop
  | .mark _ | .release _ | .rollback _ | .discard _ | .readJournal _ => True
  | _ => False

/-- The response that the H-port offers, with the reason it hands the event unit if it is not OKAY (R7, R8). -/
def offeredAnswer (s : State) : Option (Request × Ready) := s.hport.offered.bind (answerOf s)

/-! ## Premises about examinations (chapter 3) -/

/-- A valid entry whose range takes in the line (R19, R21). -/
def inRange (e : RegionEntry) (line : LineAddr) : Prop := e.valid = true ∧ e.base ≤ line ∧ line ≤ e.limit

/-- No valid active entry covers the line (R21). -/
def lineUnmapped (s : State) (line : LineAddr) : Prop := ∀ i : RegionIndex, ¬inRange (s.regions.active.get i) line

/-- The line matches this index: its active entry covers the line and that of no lower index does (R21). -/
def lineMatches (s : State) (line : LineAddr) (i : RegionIndex) : Prop :=
  inRange (s.regions.active.get i) line ∧ ∀ j < i, ¬inRange (s.regions.active.get j) line

/-- The matched entry admits the request's initiator (R24). -/
def maskAdmits (s : State) (r : Request) (i : RegionIndex) : Prop :=
  (s.regions.active.get i).mask.getLsbD r.initiator.val = true

/-- The mode of the matched entry lets the request proceed (R25). -/
def modeAdmits (s : State) (r : Request) (i : RegionIndex) : Prop :=
  (s.regions.active.get i).mode = .readOnly → r.kind = .read

/-- Checks 1 to 3 of R42 pass the request on with this region index. -/
def passesRegionUnit (s : State) (r : Request) : Option RegionIndex → Prop
  | none => lineUnmapped s (requestLine r) ∧ s.params.defaultPolicy = .pass
  | some i =>
    lineMatches s (requestLine r) i ∧ maskAdmits s r i ∧ modeAdmits s r i ∧ s.regions.software.get i = .opened

/-- A live record of the line stands among these positions (R72). -/
def liveRecordAmong (slots : List (Option Record)) (line : LineAddr) : Prop := ∃ x, some x ∈ slots ∧ x.line = line

/-- A RESERVED or VALID record of the line in the current epoch stands between head and tail (R43). -/
def coveredInEpoch (s : State) (line : LineAddr) : Prop :=
  ∃ x, some x ∈ s.journal.ring ∧ x.line = line ∧ x.epoch = currentEpoch s ∧ x.state ≠ .void

/-- The request, classified with this region index, needs a record (R43). -/
def needsNewRecord (s : State) (r : Request) (region : Option RegionIndex) : Prop :=
  r.kind = .write ∧ (∃ i, region = some i ∧ (s.regions.active.get i).mode = .journal) ∧ 1 ≤ depth s ∧
    ¬coveredInEpoch s (requestLine r)

/-- Checks 4 and 5 of R42 pass the request on. -/
def passesEngine (s : State) (r : Request) (region : Option RegionIndex) : Prop :=
  match s.engine.state with
  | .idle => True
  | .failed => ¬liveRecordAmong s.journal.ring (requestLine r) ∧ ¬needsNewRecord s r region
  | .drain | .restore => ¬liveRecordAmong (engineSpan s) (requestLine r) ∧ ¬needsNewRecord s r region

/-- Check 6 of R42: no host entry and no earlier wait-list entry is for the line. -/
def lineIsFree (s : State) (line : LineAddr) (earlier : List WaitEntry) : Prop :=
  (∀ e ∈ s.tracker.hosts, requestLine e.request ≠ line) ∧ ∀ e ∈ earlier, requestLine e.request ≠ line

/-- All 8 host entries are in use (check 7 of R42). -/
def trackerFull (s : State) : Prop := ∀ id : HostId, ∃ e ∈ s.tracker.hosts, e.id = id

/-- The lowest-numbered free identity (R48). -/
def lowestFree (s : State) (id : HostId) : Prop :=
  (∀ e ∈ s.tracker.hosts, e.id ≠ id) ∧ ∀ j < id, ∃ e ∈ s.tracker.hosts, e.id = j

/-- The examination refuses the request with this reason and region index, `earlier` being the wait-list entries that stand
before it (R42, R44, R47). -/
def refusedBy (s : State) (r : Request) (earlier : List WaitEntry) : Reason → Option RegionIndex → Prop
  | .unmapped, none => lineUnmapped s (requestLine r) ∧ s.params.defaultPolicy = .refuse
  | .notPermitted, some i => lineMatches s (requestLine r) i ∧ ¬maskAdmits s r i
  | .readOnly, some i => lineMatches s (requestLine r) i ∧ maskAdmits s r i ∧ ¬modeAdmits s r i
  | .shut, some i =>
    lineMatches s (requestLine r) i ∧ maskAdmits s r i ∧ modeAdmits s r i ∧ s.regions.software.get i = .shut
  | .faultLocked, region =>
    passesRegionUnit s r region ∧ s.engine.state = .failed ∧
      (liveRecordAmong s.journal.ring (requestLine r) ∨ needsNewRecord s r region)
  | .journalFull, region =>
    passesRegionUnit s r region ∧ passesEngine s r region ∧ lineIsFree s (requestLine r) earlier ∧ ¬trackerFull s ∧
      needsNewRecord s r region ∧ 1024 ≤ occupancy s.journal ∧ s.params.fullAction = .refuse
  | _, _ => False

/-- The examination parks the request with this reason and region index (R42, R45 to R47). -/
def parkedBy (s : State) (r : Request) (earlier : List WaitEntry) : ParkReason → Option RegionIndex → Prop
  | .hold, some i =>
    lineMatches s (requestLine r) i ∧ maskAdmits s r i ∧ modeAdmits s r i ∧ s.regions.software.get i = .hold
  | .hold, none => False
  | .rollback, region =>
    passesRegionUnit s r region ∧ (s.engine.state = .drain ∨ s.engine.state = .restore) ∧
      (liveRecordAmong (engineSpan s) (requestLine r) ∨ needsNewRecord s r region)
  | .line, region => passesRegionUnit s r region ∧ passesEngine s r region ∧ ¬lineIsFree s (requestLine r) earlier
  | .slot, region =>
    passesRegionUnit s r region ∧ passesEngine s r region ∧ lineIsFree s (requestLine r) earlier ∧ trackerFull s
  | .jfull, region =>
    passesRegionUnit s r region ∧ passesEngine s r region ∧ lineIsFree s (requestLine r) earlier ∧ ¬trackerFull s ∧
      needsNewRecord s r region ∧ 1024 ≤ occupancy s.journal ∧ s.params.fullAction = .wait

/-- The examination dispatches the request into this identity with this region index (R42, R48). -/
def dispatchedBy (s : State) (r : Request) (earlier : List WaitEntry) (id : HostId) (region : Option RegionIndex) : Prop :=
  passesRegionUnit s r region ∧ passesEngine s r region ∧ lineIsFree s (requestLine r) earlier ∧ lowestFree s id ∧
    (needsNewRecord s r region → occupancy s.journal < 1024)

/-- The stage is free to examine (R40). -/
def stageFree (s : State) : Prop := s.porn = true ∧ s.link.quiesce = none ∧ s.admission.stalledOn = none

/-- The intake head is examined next: no wait-list entry is released, and the head is not answering, and not held without the
re-examine mark (R40, R41). -/
def headIsNext (s : State) (r : Request) (rest : List IntakeEntry) : Prop :=
  stageFree s ∧ (∀ e ∈ s.admission.waitList, e.released = true → e.answering ≠ none) ∧
    s.hport.intake = ⟨r, none⟩ :: rest ∧ ∀ h, s.admission.held = some h → h.reexamine = true

/-- The wait-list entry at place `k` is the released one that stands earliest (R41). -/
def releasedIsNext (s : State) (k : Nat) (e : WaitEntry) : Prop :=
  stageFree s ∧ s.admission.waitList[k]? = some e ∧ e.released = true ∧ e.answering = none ∧
    ∀ j < k, ∀ x, s.admission.waitList[j]? = some x → x.released = true → x.answering ≠ none

/-- The host entry that dispatch creates (R48). -/
def newEntry (s : State) (id : HostId) (r : Request) (region : Option RegionIndex) (journaled : Bool) : HostEntry :=
  { id := id
    kind :=
      if journaled then .jwrite (tail s.journal) (currentEpoch s)
      else if r.kind = .read then .read
      else .write
    phase := if journaled then .pre else .mem
    op := .toIssue
    request := r
    region := region }

/-- The record that dispatch of a JWRITE reserves (R68). -/
def newRecord (s : State) (r : Request) (i : RegionIndex) : Record :=
  { state := .reserved false, epoch := currentEpoch s, line := requestLine r, initiator := r.initiator, region := i }

/-- The flags after a reservation: JHIGH is set by the one that takes the occupancy to JHIGH_LEVEL, if that is not 0
(R82). -/
def flagsAfterReservation (s : State) : BitVec 9 :=
  if occupancy s.journal + 1 = s.params.jhighLevel then s.events.flags ||| 0x008#9 else s.events.flags

/-- The reservation of this record at the tail: every mark distance rises by one (R68, R82, R91). -/
def withReservation (x : Record) (s : State) : State :=
  { s with
    journal := { s.journal with ring := s.journal.ring ++ [some x] }
    stack := { s.stack with checkpoints := s.stack.checkpoints.map fun c => { c with distance := c.distance + 1 } }
    events := { s.events with flags := flagsAfterReservation s } }

/-- The wait list and the held marks once every request whose reason, region index and line satisfy `p` is released: an
answering entry is passed over, and a held head gets the re-examine mark (R53, R54, R58). -/
def releasedWhere (p : ParkReason → Option RegionIndex → LineAddr → Bool) (s : State) : Admission :=
  { s.admission with
    waitList :=
      s.admission.waitList.map fun e =>
        if p e.reason e.region (requestLine e.request) = true ∧ e.answering = none then { e with released := true } else e
    held :=
      match s.hport.intake with
      | [] => s.admission.held
      | q :: _ =>
        s.admission.held.map fun h =>
          if p h.reason h.region (requestLine q.request) = true then { h with reexamine := true } else h }

/-- The wait list and the held marks once the entry at place `k`, for this line, has left (R53, R57, R58). -/
def leftByEntry (k : Nat) (line : LineAddr) (s : State) : Admission :=
  { s.admission with
    waitList :=
      s.admission.waitList.take k ++
        (s.admission.waitList.drop (k + 1)).map fun e =>
          if e.reason = .line ∧ requestLine e.request = line ∧ e.answering = none then { e with released := true } else e
    held := s.admission.held.map fun h => { h with reexamine := true } }

/-- The wait list and the held marks once this holder has given up its request: a wait-list entry leaves; a retiring host entry
releases the LINE waiters of its line and every SLOT waiter (R8, R53, R57, R63). -/
def admissionWithout (h : Holder) (r : Request) (s : State) : Admission :=
  match h with
  | .taking | .intakeHead => s.admission
  | .waiting p => leftByEntry (s.admission.waitList.findIdx fun e => requestPair e.request = p) (requestLine r) s
  | .host _ => releasedWhere (fun reason _ line => reason == .slot || reason == .line && line == requestLine r) s

/-! ## Premises and conclusions about rollbacks (chapter 6) -/

/-- The state at the acceptance of a rollback to the checkpoint at place `k`, before the drain test (steps 1 to 4 of R112). -/
def rollbackEntered (k : Nat) (target : Checkpoint) (s : State) : State :=
  { s with
    stack := { s.stack with checkpoints := s.stack.checkpoints.take (k + 1) }
    engine := { s.engine with state := .drain, span := some ⟨target.mark, target.distance⟩, retry := false }
    timer := if s.params.dlEnable then { s.timer with state := .suspended, elapsed := 0, divider := 0 } else s.timer }

/-- The restart of the timer at a boundary or a completion, which is made only while DL_ENABLE is on (R134, R136). -/
def restarted (s : State) : Timer :=
  if s.params.dlEnable then { state := .running, elapsed := 0, divider := 0, period := 2 ^ s.params.dlPeriod } else s.timer

/-- `s` once the restore is complete: IDLE, RBDONE, the ROLLBACK waiters released, the timer restarted (R123). -/
def completes (s : State) : State :=
  { s with
    engine := { s.engine with state := .idle, span := none, retry := false }
    events := { s.events with flags := s.events.flags ||| 0x080#9 }
    admission := releasedWhere (fun reason _ _ => reason == .rollback) s
    timer := restarted s }

/-- `s` once the restore entry has been handed the RESTORE of this VALID record before the tail (R119). -/
def restoreHanded (line : LineAddr) (pre : LineData) (s : State) : State :=
  { s with
    engine := { s.engine with state := .restore }
    tracker :=
      { s.tracker with
        restore := some { line := line, position := (tail s.journal + 1023) % 1024, preImage := pre, op := .toIssue } } }

/-- The `k` newest records freed at the tail of a journal that this leaves with `kept`: the tail is drawn back, every mark
distance falls by `k`, and the JFULL waiters are released if the occupancy falls from 1024 (R76, R78, R91). -/
def drawnBack (kept : List (Option Record)) (k : Nat) (s : State) : State :=
  { s with
    journal := { s.journal with ring := kept }
    stack := { s.stack with checkpoints := s.stack.checkpoints.map fun c => { c with distance := c.distance - k } }
    admission :=
      if s.journal.ring.length = 1024 ∧ kept.length < 1024 then releasedWhere (fun reason _ _ => reason == .jfull) s
      else s.admission }

/-! ## Bytes of responses -/

/-- A 16-bit field, most significant byte first (R180). -/
def be16 (n : Nat) : List Byte := [BitVec.ofNat 8 (n / 256), BitVec.ofNat 8 n]

/-- A 32-bit field, most significant byte first (R180). -/
def be32 (n : Nat) : List Byte := be16 (n / 65536) ++ be16 n

end Sys2Proof.Machine
end

