-- ==== Sys2Proof/WellFormed.lean ====
section
/-!
DEFINITION. Which terms of Instr are events that can happen as their row names them. The meanings are total: what they do
with an ill-formed term is said in notes/assumptions/3.md.
-/

namespace Sys2Proof

/-- A complete frame's payload is at most 40 bytes (R160, R161). -/
def Frame.wellFormed (f : Frame) : Bool := decide (f.payload.length ≤ Config.maxPayload)

/-- A frame of the WRITE-PARAM row of identifier `own` names that parameter, or is one that names no parameter: of another
length, or of an unknown identifier (R187, R189). -/
def Frame.writesParam (f : Frame) (own : Nat) : Bool :=
  f.wellFormed &&
    (f.payload.length != 3 || (f.payload.getD 0 0).toNat == own || (f.payload.getD 0 0).toNat == 0 ||
      decide (8 < (f.payload.getD 0 0).toNat))

/-- Whether a command is an event of its row. -/
def Instr.wellFormed : Instr → Bool
  | .frameError _ bits => decide (readPeriod bits = .error)
  | .repeatFrame _ f => f.wellFormed
  | .unknownCommand code f => f.wellFormed && !isKnownCode code
  | .identify f | .readStatus f | .readEvents f | .clearEvents f | .readCapture f | .ackCapture f | .readParam f => f.wellFormed
  | .writeDefaultPolicy f => f.writesParam 1
  | .writeFullAction f => f.writesParam 2
  | .writeJhighLevel f => f.writesParam 3
  | .writeWaitLimit f => f.writesParam 4
  | .writeDlEnable f => f.writesParam 5
  | .writeDlPeriod f => f.writesParam 6
  | .writeDlTarget f => f.writesParam 7
  | .writeEventEnable f => f.writesParam 8
  | .stageRegion f | .clearStaged f | .revertStaged f | .applyRegions f | .setRegionState f | .readRegion f => f.wellFormed
  | .mark f | .release f | .rollback f | .discard f | .readCheckpoints f | .readJournal f | .softReset f => f.wellFormed
  | .takeRequest _ | .responseTaken | .examination | .waitExpiry _ | .issueGrant | .operationAccepted | .answer _ _ => true
  | .pornAssert | .pornRelease | .quietIntervalEnd | .journalReady | .firstExpiry | .secondExpiry | .softResetStep4 => true
  | .fetchPeriod _ _ => true

end Sys2Proof
end

