-- ==== Sys2Proof/Certificates/Slice0/Obligations.lean ====
section
/-!
DEFINITION. The statements for the provers, each about every command, state and operand that meets its premises.
-/

section
open Sys2Proof Sys2Proof.Machine

/-! ## The step and the clock -/

/-- A step with a command at the front of the queue executes it on the state with the queue's rest. -/
def Obligations.StepRunsFrontCommand : Prop :=
  ∀ (c : Instr) (rest : List Instr) (s : State), step { s with pending := c :: rest } = exec c { s with pending := rest }

/-- On an empty queue the step takes the first time-driven event that is due, in the order quiet interval, initialisation,
earliest wait-list place, first expiry, second expiry; with none due 1 µs passes. This is the model's choice
(notes/assumptions/4.md): the manual has the events happen by themselves. -/
def Obligations.IdleStepAdvancesTime : Prop :=
  ∀ s : State, s.pending = [] →
    (quietIntervalDue s = true → step s = exec .quietIntervalEnd s) ∧
      (quietIntervalDue s = false →
        (initialisationDue s = true → step s = exec .journalReady s) ∧
          (initialisationDue s = false →
            (∀ k : Fin 16, expiryDue k.val s = true → (∀ j < k, expiryDue j.val s = false) →
                step s = exec (.waitExpiry k) s) ∧
              ((∀ k : Fin 16, expiryDue k.val s = false) →
                (s.porn = true → firstExpiryDue s = true → step s = exec .firstExpiry s) ∧
                  (s.porn = true → firstExpiryDue s = false → secondExpiryDue s = true → step s = exec .secondExpiry s) ∧
                  (s.porn = false ∨ firstExpiryDue s = false ∧ secondExpiryDue s = false →
                    step s = .next { s with now := s.now + 1, timer := (tick s).timer }))))

/-- Every command answers a next state, and only PORN_ASSERT and PORN_RELEASE move PORn. That a command takes no time and leaves
the queue of waiting commands alone is the model's choice (notes/assumptions/4.md), and so is what it does on terms that
WellFormed refuses (notes/assumptions/3.md). -/
def Obligations.EveryCommandCompletes : Prop :=
  ∀ (c : Instr) (s : State), ∃ t, exec c s = .next t ∧ t.pending = s.pending ∧ t.now = s.now ∧
    (c ≠ .pornAssert → c ≠ .pornRelease → t.porn = s.porn)

/-- After n periods of TBCLK a RUNNING or WARNED timer has counted n µs, in whole milliseconds and a divider below 1000, and
an OFF or SUSPENDED one nothing (R135). -/
def Obligations.TimerCountsWholeMilliseconds : Prop :=
  ∀ (s : State) (n : Nat),
    (tick^[n] s).now = s.now + n ∧
      (s.timer.state = .running ∨ s.timer.state = .warned → s.timer.divider < 1000 →
        (tick^[n] s).timer.state = s.timer.state ∧ (tick^[n] s).timer.period = s.timer.period ∧
          (tick^[n] s).timer.divider < 1000 ∧
          1000 * (tick^[n] s).timer.elapsed + (tick^[n] s).timer.divider =
            1000 * s.timer.elapsed + s.timer.divider + n) ∧
      (s.timer.state = .off ∨ s.timer.state = .suspended → (tick^[n] s).timer = s.timer)

/-! ## Frames and periods -/

/-- The bits of a command period read back as the frame they carry, whatever is clocked after it (R158 to R162). -/
def Obligations.CommandPeriodReadsBack : Prop :=
  ∀ (toggle : Bool) (code : BitVec 7) (payload : List Byte) (after : List Bool), payload.length ≤ 40 →
    readPeriod (commandPeriodBits toggle code payload ++ after) = .frame toggle code payload

/-- What a period spells is an event of its row, a frame with the expected toggle its code's and any other a repeat (R159 to
R166, R176). -/
def Obligations.PeriodSpellsItsRow : Prop :=
  (∀ (expected : Bool) (start : PeriodStart) (bits : List Bool) (c : Instr),
      periodCommand expected start bits = some c → c.wellFormed = true) ∧
    ∀ (expected toggle : Bool) (start : PeriodStart) (code : BitVec 7) (payload : List Byte), payload.length ≤ 40 →
      periodCommand expected start (commandPeriodBits toggle code payload) =
        some (if toggle = expected then commandOfCode code ⟨start, toggle, payload⟩
          else .repeatFrame code ⟨start, toggle, payload⟩)

/-- The CRC carried on through a right CRC byte ends at 0, and no other byte is right (R162). -/
def Obligations.CrcResidueIsZero : Prop :=
  ∀ (bytes : List Byte) (last : Byte), crcFrom 0xFF#8 (bytes ++ [last]) = 0#8 ↔ last = crc8 bytes

/-! ## Invariants -/

/-- The state right after reset is sound in every sense in which the steps are stated to keep it so. -/
def Obligations.ResetIsSound : Prop :=
  withinCapacity State.reset ∧ headIsLive State.reset ∧ custodyExact State.reset ∧ recordsUnique State.reset ∧
    marksConsistent State.reset ∧ timerSound State.reset ∧ dirtyExact State.reset ∧ tablesProper State.reset ∧
    drainTested State.reset

/-- Every step keeps the queues, the journal, the stack and the further count within their sizes, the head position in range,
and a live record at the head (R5, R52, R66, R75, R90, R153). -/
def Obligations.StepKeepsCapacity : Prop :=
  ∀ s t : State, withinCapacity s → headIsLive s → step s = .next t → withinCapacity t ∧ headIsLive t

/-- Every step keeps each outstanding pair with exactly one request in custody, and one host entry to an identity and to a line
(R6, R10, R60). -/
def Obligations.StepKeepsCustody : Prop :=
  ∀ s t : State, custodyExact s → step s = .next t → custodyExact t

/-- Every step keeps at most one RESERVED or VALID record for a line and an epoch (R73). -/
def Obligations.StepKeepsRecordsUnique : Prop :=
  ∀ s t : State, recordsUnique s → step s = .next t → recordsUnique t

/-- Every step keeps the stack, the journal and the restore engine in agreement (R69, R80, R90, R91, R93, R113). -/
def Obligations.StepKeepsMarksConsistent : Prop :=
  ∀ s t : State, marksConsistent s → step s = .next t → marksConsistent t

/-- Every step keeps the deadline timer as R133 describes it and the parameters in range (R133, R137, R142, R187). -/
def Obligations.StepKeepsTimerSound : Prop :=
  ∀ s t : State, timerSound s → step s = .next t → timerSound t

/-- Every step keeps staged-dirty exact and the entries of both tables proper (R19, R20). -/
def Obligations.StepKeepsTablesProper : Prop :=
  ∀ s t : State, dirtyExact s → tablesProper s → step s = .next t → dirtyExact t ∧ tablesProper t

/-- Every step leaves no engine in DRAIN with its drain condition true, unless the engine is stopping (R115). -/
def Obligations.StepTestsTheDrain : Prop :=
  ∀ s t : State, drainTested s → step s = .next t → drainTested t

/-! ## What no command can change -/

/-- While PORn is low nothing but its release changes the part (R16, R37, R107, R110, R144, R156, R169). A command period leaves
no trace while the quiesce of a soft reset is under way, or when it began then or across PORn, and in the quiesce no request is
taken (R2, R169, R174). A stage that is stalled, in a quiesce or without power examines nothing (R37, R40, R59). That the rows
of these events, put into the queue then, change nothing is the model's choice (notes/assumptions/3.md). -/
def Obligations.PowerlessOrQuiescentPartIgnores : Prop :=
  (∀ (c : Instr) (s : State), s.porn = false → c ≠ .pornRelease → exec c s = .next s) ∧
    (∀ s : State, ¬stageFree s → exec .examination s = .next s) ∧
    ∀ (s : State) (f : Frame), s.link.quiesce ≠ none ∨ f.start ≠ .live →
      (∀ c, frameOf c = some f → exec c s = .next s) ∧ (∀ code, exec (.repeatFrame code f) s = .next s) ∧
        (∀ bits, exec (.frameError f.start bits) s = .next s) ∧
        (s.link.quiesce ≠ none → ∀ r, exec (.takeRequest r) s = .next s)

/-- No record is reserved while the restore engine is DRAIN, RESTORE or FAILED: no command then makes the journal longer, or
adds a live record (R48). -/
def Obligations.NoReservationUnlessEngineIdle : Prop :=
  ∀ (c : Instr) (s t : State), s.engine.state ≠ .idle → exec c s = .next t →
    occupancy t.journal ≤ occupancy s.journal ∧ (liveEpochs t.journal).length ≤ (liveEpochs s.journal).length

/-- A valid capture record changes in nothing but its further count, by at most one and never above 255, until ACK-CAPTURE,
a soft reset or PORn (R153). -/
def Obligations.ValidCaptureOnlyCounts : Prop :=
  ∀ (s t : State) (c : Instr) (held : Capture), s.events.capture = some held → s.link.quiesce = none →
    exec c s = .next t → (∀ f, c ≠ .ackCapture f ∧ c ≠ .softReset f) → c ≠ .pornAssert → c ≠ .pornRelease →
    t.events.capture = some held ∨
      c = .responseTaken ∧ t.events.capture = some { held with further := min 255 (held.further + 1) }

/-- No command but the eight writes, SOFT-RESET and the two of PORn changes a parameter outside a quiesce (R187, R190). -/
def Obligations.ParametersChangeOnlyByWrites : Prop :=
  ∀ (c : Instr) (s t : State), s.link.quiesce = none → exec c s = .next t → c ≠ .pornAssert → c ≠ .pornRelease →
    (∀ f, c ≠ .writeDefaultPolicy f ∧ c ≠ .writeFullAction f ∧ c ≠ .writeJhighLevel f ∧ c ≠ .writeWaitLimit f ∧
      c ≠ .writeDlEnable f ∧ c ≠ .writeDlPeriod f ∧ c ≠ .writeDlTarget f ∧ c ≠ .writeEventEnable f ∧ c ≠ .softReset f) →
    t.params = s.params

/-- Outside a quiesce the active table changes only at MARK, APPLY-REGIONS, SOFT-RESET and PORn, and then only to the staged
table or all-invalid; a software state changes only at SET-REGION-STATE, SOFT-RESET and PORn (R28, R33, R34, R35). -/
def Obligations.ActiveTableChangesOnlyByPromotion : Prop :=
  ∀ (c : Instr) (s t : State), s.link.quiesce = none → exec c s = .next t →
    (t.regions.active = s.regions.active ∨
        (∃ f, c = .mark f ∨ c = .applyRegions f) ∧ t.regions.active = s.regions.staged ∧
          t.regions.staged = s.regions.staged ∨
        ((∃ f, c = .softReset f) ∨ c = .pornAssert ∨ c = .pornRelease) ∧ ∀ i : RegionIndex, t.regions.active.get i = RegionEntry.invalid) ∧
      (t.regions.software = s.regions.software ∨ (∃ f, c = .setRegionState f ∨ c = .softReset f) ∨ c = .pornAssert ∨
        c = .pornRelease)

/-- What happens at the other ports, the clock's events among them, does not reach the link's state; in a quiesce it does so
only at step 4 (R168, R173). -/
def Obligations.LinkChangesOnlyByItsPeriods : Prop :=
  ∀ (c : Instr) (s t : State), exec c s = .next t → frameOf c = none →
    (∀ start bits code f clocked,
      c ≠ .frameError start bits ∧ c ≠ .repeatFrame code f ∧ c ≠ .fetchPeriod start clocked) →
    c ≠ .pornAssert → c ≠ .pornRelease →
    t.link = s.link ∨
      (∃ toggle, s.link.quiesce = some toggle ∧ t.link.quiesce = none ∧ t.link.expected = !toggle) ∧
        (c = .responseTaken ∨ (∃ i a, c = .answer i a) ∨ c = .softResetStep4)

/-- LOSTRB is set only by a SOFT-RESET that meets a busy or failed engine, and cleared only by MARK and by the release of PORn
(R131). -/
def Obligations.LostrbChangesOnlyAsR131Says : Prop :=
  ∀ (c : Instr) (s t : State), exec c s = .next t →
    (t.engine.lostrb = true → s.engine.lostrb = false → (∃ f, c = .softReset f) ∧ s.engine.state ≠ .idle) ∧
      (t.engine.lostrb = false → s.engine.lostrb = true → (∃ f, c = .mark f) ∨ c = .pornRelease)

/-- The same command frame, sent again, changes nothing more: a repeat executes nothing and leaves both stored responses as
the first frame left them (R165, R166, R170, R174). -/
def Obligations.FrameSentTwiceExecutesOnce : Prop :=
  ∀ (c : Instr) (f : Frame) (s t : State), frameOf c = some f → exec c s = .next t → exec c t = .next t

/-- INTn is asserted exactly while at least one flag is both set and enabled, and released when PORn goes low (R150). -/
def Obligations.IntnFollowsFlagsAndMask : Prop :=
  ∀ s : State,
    (intAsserted s = true ↔
        ∃ i : Fin 9, s.events.flags.getLsbD i.val = true ∧ s.params.eventEnable.getLsbD i.val = true) ∧
      ∀ t, s.porn = true → exec .pornAssert s = .next t → intAsserted t = false

/-- After a response is taken the output is free only if no response is ready, and what it offers has been ready longest. An
offered response stays offered, with its request and its outcome, under every command but RESPONSE_TAKEN and the two of PORn
(R8). -/
def Obligations.SelectorOffersLongestReady : Prop :=
  (∀ s t : State, s.porn = true → offeredAnswer s ≠ none → exec .responseTaken s = .next t →
     ∀ h since, (h, since) ∈ readyHolders t →
       ∃ h' r a, t.hport.offered = some h' ∧ answerOf t h' = some (r, a) ∧ a.since ≤ since) ∧
    ∀ (c : Instr) (s t : State) (h : Holder) (response : Request × Ready), trackerOrderly s →
      s.hport.offered = some h → answerOf s h = some response → exec c s = .next t →
      c ≠ .responseTaken → c ≠ .pornAssert → c ≠ .pornRelease →
      t.hport.offered = some h ∧ answerOf t h = some response

/-- An examination dispatches no request for a line with a live record in the span of a rollback under way, nor, with the
engine FAILED, for a line with any live record (R44, R45). -/
def Obligations.RollbackAndFaultLockHoldLines : Prop :=
  ∀ (s t : State) (e : HostEntry), exec .examination s = .next t → e ∈ t.tracker.hosts → e ∉ s.tracker.hosts →
    (s.engine.state = .failed → ¬liveRecordAmong s.journal.ring (requestLine e.request)) ∧
      (s.engine.state = .drain ∨ s.engine.state = .restore → ¬liveRecordAmong (engineSpan s) (requestLine e.request))

/-- Of the values in use by nothing, the counter advances to the first after the epoch just given, from 65535 to 1 (R93). -/
def Obligations.NextEpochIsFirstFreeValue : Prop :=
  ∀ s : State, withinCapacity s → s.stack.nextEpoch ≠ 0#16 →
    ∃ n, (pushCheckpoint s).stack.nextEpoch = (fun e => if e = 65535#16 then 1#16 else e + 1#16)^[n + 1] s.stack.nextEpoch ∧
      (pushCheckpoint s).stack.nextEpoch ∉ epochsInUse (pushCheckpoint s) ∧ (pushCheckpoint s).stack.nextEpoch ≠ 0#16 ∧
      ∀ m < n, (fun e => if e = 65535#16 then 1#16 else e + 1#16)^[m + 1] s.stack.nextEpoch ∈ epochsInUse (pushCheckpoint s)

/-! ## The H-port -/

/-- TAKE_REQUEST: the four conditions of acceptance, the two checks in order, and where the request goes (R2 to R6). -/
def Obligations.RequestIsTakenByItsChecks : Prop :=
  ∀ (r : Request) (s : State),
    (¬(s.porn = true ∧ s.link.quiesce = none ∧ s.hport.taking = none ∧ s.hport.intake.length < 8) →
        exec (.takeRequest r) s = .next s) ∧
      (s.porn = true → s.link.quiesce = none → s.hport.taking = none → s.hport.intake.length < 8 →
        if r.count.toNat = 0 ∨ 9 ≤ r.count.toNat ∨ 8 < r.address.toNat % 8 + r.count.toNat then
          exec (.takeRequest r) s =
            .next (offerNext { s with
              hport := { s.hport with taking := some ⟨r, ⟨.failed .malformed, none, s.readySeq⟩⟩ }
              readySeq := s.readySeq + 1 })
        else if (r.initiator, r.tag) ∈ s.hport.outstanding then
          exec (.takeRequest r) s =
            .next (offerNext { s with
              hport := { s.hport with taking := some ⟨r, ⟨.failed .tagInUse, none, s.readySeq⟩⟩ }
              readySeq := s.readySeq + 1 })
        else
          exec (.takeRequest r) s =
            .next { s with
              hport :=
                { s.hport with
                  intake := s.hport.intake ++ [⟨r, none⟩]
                  outstanding := s.hport.outstanding ++ [(r.initiator, r.tag)] } })

/-- RESPONSE_TAKEN: the holder gives up its request, whose pair leaves the outstanding set unless the taking register held it; a
retiring host entry releases the LINE waiters of its line and the SLOT waiters, and a leaving wait-list entry the LINE waiters
behind it; a stage stalled on the refusal goes on. A response that is not OKAY fills an invalid capture record, with the epoch
current then, and sets VIOL, or counts. The drain test follows a retirement, the next offer and step 4 of a soft reset follow
in the same event (R6, R8, R9, R53, R57, R63, R115, R152, R153, R173). That nothing happens with nothing offered is the model's
choice (notes/assumptions/3.md): no response can be taken then. -/
def Obligations.TakenResponseFreesItsHolder : Prop :=
  ∀ s : State, (offeredAnswer s = none → exec .responseTaken s = .next s) ∧
    ∀ (h : Holder) (r : Request) (a : Ready) (left : State),
      s.porn = true → s.hport.offered = some h → answerOf s h = some (r, a) →
      left = { s with
          hport :=
            { taking := if h = .taking then none else s.hport.taking
              intake := if h = .intakeHead then s.hport.intake.tail else s.hport.intake
              outstanding := if h = .taking then s.hport.outstanding else s.hport.outstanding.erase (r.initiator, r.tag)
              offered := none }
          admission :=
            { admissionWithout h r s with
              stalledOn := if s.admission.stalledOn = some h then none else s.admission.stalledOn }
          tracker :=
            match h with
            | .taking | .intakeHead | .waiting _ => s.tracker
            | .host id => { s.tracker with hosts := s.tracker.hosts.filter fun x => x.id ≠ id }
          events :=
            match a.result, s.events.capture with
            | .okay _, _ => s.events
            | .failed reason, none =>
              { flags := s.events.flags ||| 0x002#9
                capture :=
                  some
                    { reason := reason, initiator := r.initiator, tag := r.tag, kind := r.kind, address := r.address
                      region := a.region, epoch := currentEpoch s, further := 0 } }
            | .failed _, some c =>
              { s.events with capture := some { c with further := min 255 (c.further + 1) } } } →
      exec .responseTaken s =
        .next (settleQuiesce (offerNext (match h with
          | .host _ => drainTest left
          | .taking | .intakeHead | .waiting _ => left)))

/-! ## Examinations and the wait list -/

/-- EXAMINATION of the intake head that passes every check: dispatch into the lowest free identity, plain, or as a JWRITE with
a record reserved at the tail (R40 to R43, R48, R68). -/
def Obligations.HeadIsDispatched : Prop :=
  ∀ (s : State) (r : Request) (rest : List IntakeEntry) (id : HostId) (region : Option RegionIndex),
    headIsNext s r rest → dispatchedBy s r s.admission.waitList id region →
    (¬needsNewRecord s r region →
        exec .examination s =
          .next (offerNext { s with
            hport := { s.hport with intake := rest }
            admission := { s.admission with held := none }
            tracker := { s.tracker with hosts := s.tracker.hosts ++ [newEntry s id r region false] } })) ∧
      ∀ i, region = some i → needsNewRecord s r region →
        exec .examination s =
          .next (offerNext { withReservation (newRecord s r i) s with
            hport := { s.hport with intake := rest }
            admission := { s.admission with held := none }
            tracker := { s.tracker with hosts := s.tracker.hosts ++ [newEntry s id r region true] } })

/-- EXAMINATION of an intake head that must park: it joins the end of a list of fewer than 16 entries with the expiry that
WAIT_LIMIT gives, or else is held at the head. One that is refused stays, answering with the reason of the deciding check, and
the stage is stalled on it. JFULL is set when check 8 decides (R42, R44, R47, R49, R50, R55, R58, R83). -/
def Obligations.HeadParksOrIsRefused : Prop :=
  (∀ (s : State) (r : Request) (rest : List IntakeEntry) (reason : ParkReason) (region : Option RegionIndex),
     headIsNext s r rest → parkedBy s r s.admission.waitList reason region →
     exec .examination s =
       .next (offerNext
         (if s.admission.waitList.length < 16 then
           { s with
             hport := { s.hport with intake := rest }
             admission :=
               { s.admission with
                 held := none
                 waitList := s.admission.waitList ++
                   [{ request := r, reason := reason, region := region, parkedAt := s.now
                      expiry := if s.params.waitLimit = 0 then none else some (s.now + 2 ^ (s.params.waitLimit - 1))
                      released := false, answering := none }] }
             events := { s.events with flags := if reason = .jfull then s.events.flags ||| 0x010#9 else s.events.flags } }
         else
           { s with
             admission := { s.admission with held := some ⟨reason, region, false⟩ }
             events :=
               { s.events with flags := if reason = .jfull then s.events.flags ||| 0x010#9 else s.events.flags } }))) ∧
    ∀ (s : State) (r : Request) (rest : List IntakeEntry) (reason : Reason) (region : Option RegionIndex),
      headIsNext s r rest → refusedBy s r s.admission.waitList reason region →
      exec .examination s =
        .next (offerNext { s with
          hport := { s.hport with intake := ⟨r, some ⟨.failed reason, region, s.readySeq⟩⟩ :: rest }
          admission := { s.admission with held := none, stalledOn := some .intakeHead }
          events :=
            { s.events with flags := if reason = .journalFull then s.events.flags ||| 0x010#9 else s.events.flags }
          readySeq := s.readySeq + 1 })

/-- EXAMINATION takes the earliest released wait-list entry before the head. Parked again it keeps its place, parked-at time
and expiry; refused it stays, answering; dispatched it leaves, and the requests behind it meet that (R41, R48 to R50, R54,
R57). -/
def Obligations.ReleasedEntryIsExaminedFirst : Prop :=
  ∀ (s : State) (k : Nat) (e : WaitEntry), releasedIsNext s k e →
    (∀ reason region, parkedBy s e.request (s.admission.waitList.take k) reason region →
      exec .examination s =
        .next (offerNext { s with
          admission :=
            { s.admission with
              waitList := s.admission.waitList.set k { e with reason := reason, region := region, released := false } }
          events :=
            { s.events with flags := if reason = .jfull then s.events.flags ||| 0x010#9 else s.events.flags } })) ∧
      (∀ reason region, refusedBy s e.request (s.admission.waitList.take k) reason region →
        exec .examination s =
          .next (offerNext { s with
            admission :=
              { s.admission with
                waitList :=
                  s.admission.waitList.set k
                    { e with released := false, answering := some ⟨.failed reason, region, s.readySeq⟩ }
                stalledOn := some (.waiting (requestPair e.request)) }
            events :=
              { s.events with flags := if reason = .journalFull then s.events.flags ||| 0x010#9 else s.events.flags }
            readySeq := s.readySeq + 1 })) ∧
      ∀ id region, dispatchedBy s e.request (s.admission.waitList.take k) id region →
        (¬needsNewRecord s e.request region →
            exec .examination s =
              .next (offerNext { s with
                admission := leftByEntry k (requestLine e.request) s
                tracker := { s.tracker with hosts := s.tracker.hosts ++ [newEntry s id e.request region false] } })) ∧
          ∀ i, region = some i → needsNewRecord s e.request region →
            exec .examination s =
              .next (offerNext { withReservation (newRecord s e.request i) s with
                admission := leftByEntry k (requestLine e.request) s
                tracker := { s.tracker with hosts := s.tracker.hosts ++ [newEntry s id e.request region true] } })

/-- WAIT_EXPIRY: an entry that reached its expiry and is not answering becomes answering with WAIT_TIMEOUT and its recorded
region index, loses a released mark and keeps its place; WAITTO is set. An answering entry, and one before its expiry or without
one, is left as it is (R54, R56); that such a WAIT_EXPIRY changes nothing is the model's choice (notes/assumptions/3.md). -/
def Obligations.ExpiredEntryIsRefused : Prop :=
  ∀ (s : State) (place : Fin 16) (e : WaitEntry),
    s.porn = true → s.admission.waitList[place.val]? = some e →
    (e.answering ≠ none ∨ (∀ time, e.expiry = some time → s.now < time) → exec (.waitExpiry place) s = .next s) ∧
      ∀ time, e.answering = none → e.expiry = some time → time ≤ s.now →
        exec (.waitExpiry place) s =
          .next (offerNext { s with
            admission :=
              { s.admission with
                waitList :=
                  s.admission.waitList.set place.val
                    { e with released := false, answering := some ⟨.failed .waitTimeout, e.region, s.readySeq⟩ } }
            events := { s.events with flags := s.events.flags ||| 0x004#9 }
            readySeq := s.readySeq + 1 })

/-! ## The M-port -/

/-- ISSUE_GRANT presents the operation of the restore entry if that is ready, and else of the ready host entry created
earliest, with the fields of R12; nothing is presented in the quiet interval, while an operation is, or with no entry ready.
OPERATION_ACCEPTED: the operation presented becomes outstanding for its entry, and the bundle is free (R12, R13, R17). That a
grant with nothing to present and an acceptance with nothing presented change nothing is the model's choice
(notes/assumptions/3.md). -/
def Obligations.OperationsAreGrantedAndAccepted : Prop :=
  (∀ s : State,
     (s.mport.presented ≠ none ∨ s.mport.quietSince ≠ none ∨
          (∀ e, s.tracker.restore = some e → e.op ≠ .toIssue) ∧ (∀ e ∈ s.tracker.hosts, e.op ≠ .toIssue) →
        exec .issueGrant s = .next s) ∧
       (s.porn = true → s.mport.presented = none → s.mport.quietSince = none →
         (∀ e, s.tracker.restore = some e → e.op = .toIssue →
           exec .issueGrant s =
             .next { s with
               mport :=
                 { s.mport with
                   presented :=
                     some
                       { kind := .restore, entry := .restore, line := e.line, first := 0, count := 8
                         mask := some 0xFFFFFFFF#32, data := some e.preImage } } }) ∧
           ((∀ e, s.tracker.restore = some e → e.op ≠ .toIssue) →
             ∀ (before after : List HostEntry) (e : HostEntry), s.tracker.hosts = before ++ e :: after →
               (∀ x ∈ before, x.op ≠ .toIssue) → e.op = .toIssue →
               (e.phase = .mem → e.request.kind = .read →
                 exec .issueGrant s =
                   .next { s with
                     mport :=
                       { s.mport with
                         presented :=
                           some
                             { kind := .fwdRead, entry := .host e.id, line := requestLine e.request
                               first := e.request.address.toNat % 8, count := e.request.count.toNat
                               mask := none, data := none } } }) ∧
                 (e.phase = .mem ∧ e.request.kind = .write ∨ e.phase = .wr →
                   exec .issueGrant s =
                     .next { s with
                       mport :=
                         { s.mport with
                           presented :=
                             some
                               { kind := .fwdWrite, entry := .host e.id, line := requestLine e.request
                                 first := e.request.address.toNat % 8, count := e.request.count.toNat
                                 mask := some e.request.mask, data := some e.request.data } } }) ∧
                 (e.phase = .pre →
                   exec .issueGrant s =
                     .next { s with
                       mport :=
                         { s.mport with
                           presented :=
                             some
                               { kind := .preRead, entry := .host e.id, line := requestLine e.request
                                 first := 0, count := 8, mask := none, data := none } } })))) ∧
    (∀ s : State, s.mport.presented = none → exec .operationAccepted s = .next s) ∧
    ∀ (s : State) (op : Operation), s.porn = true → s.mport.presented = some op →
      (∀ id, op.entry = .host id →
        exec .operationAccepted s =
          .next { s with
            mport := { s.mport with presented := none }
            tracker :=
              { s.tracker with
                hosts := s.tracker.hosts.map fun e => if e.id = id then { e with op := .outstanding } else e } }) ∧
        (op.entry = .restore →
          exec .operationAccepted s =
            .next { s with
              mport := { s.mport with presented := none }
              tracker := { s.tracker with restore := s.tracker.restore.map fun e => { e with op := .outstanding } } })

/-- ANSWER to a FWD-READ or FWD-WRITE: the entry moves to ANSWER with OKAY and, for a READ, the count words, or with MEM_FAULT,
and touches no journal state (R14, R61, R62). -/
def Obligations.ForwardAnswerIsReturned : Prop :=
  ∀ (s : State) (identity : Fin 16) (id : HostId) (e : HostEntry) (a : MemAnswer),
    s.porn = true → s.mport.quietSince = none → identity.val = id.val →
    s.tracker.hosts.find? (fun x => x.id = id ∧ x.op = .outstanding) = some e → e.phase = .mem ∨ e.phase = .wr →
    exec (.answer identity a) s =
      .next (offerNext { s with
        tracker :=
          { s.tracker with
            hosts := s.tracker.hosts.map fun x =>
              if x.id = id then
                { e with
                  op := .idle
                  phase :=
                    .answer
                      { result :=
                          match a, e.request.kind with
                          | .ok lanes, .read => .okay (lanes.toList.take e.request.count.toNat)
                          | .ok _, .write => .okay []
                          | .error, _ => .failed .memFault
                        region := e.region
                        since := s.readySeq } }
              else x }
        readySeq := s.readySeq + 1 })

/-- ANSWER to a PRE-READ: a record that is no orphan becomes VALID with the 8 words, or VOID; the entry goes on to its
FWD-WRITE, or answers PRE_READ_FAULT. The record of an orphan is freed instead, the head advances over the FREED positions it
then stands before, the JFULL waiters are released if the occupancy falls from 1024, and after OK the write goes to memory
unjournaled. The drain test follows (R14, R62, R70, R71, R75, R78, R80, R115). -/
def Obligations.PreReadAnswerSettlesRecord : Prop :=
  ∀ (s : State) (identity : Fin 16) (id : HostId) (e : HostEntry) (a : MemAnswer) (position : Nat) (epoch : Epoch) (x : Record)
    (orphan : Bool) (after : HostEntry) (seq : Nat),
    s.porn = true → s.mport.quietSince = none → identity.val = id.val →
    s.tracker.hosts.find? (fun y => y.id = id ∧ y.op = .outstanding) = some e → e.phase = .pre →
    e.kind = .jwrite position epoch → recordAt s.journal position = some x → x.state = .reserved orphan →
    after =
      (match a with
        | .ok _ => { e with phase := .wr, op := .toIssue }
        | .error => { e with phase := .answer ⟨.failed .preReadFault, e.region, s.readySeq⟩, op := .idle }) →
    seq = (match a with | .ok _ => s.readySeq | .error => s.readySeq + 1) →
    (orphan = false →
      exec (.answer identity a) s =
        .next (offerNext (drainTest { s with
          tracker := { s.tracker with hosts := s.tracker.hosts.map fun y => if y.id = id then after else y }
          journal :=
            { s.journal with
              ring :=
                s.journal.ring.set (ringIndex s.journal position)
                  (some { x with state := match a with | .ok lanes => .valid lanes | .error => .void }) }
          readySeq := seq }))) ∧
      ∀ freed kept : List (Option Record), orphan = true →
        s.journal.ring.set (ringIndex s.journal position) none = freed ++ kept → (∀ slot ∈ freed, slot = none) →
        kept.head? ≠ some none →
        exec (.answer identity a) s =
          .next (offerNext (drainTest { s with
            tracker := { s.tracker with hosts := s.tracker.hosts.map fun y => if y.id = id then after else y }
            journal := { s.journal with head := (s.journal.head + freed.length) % 1024, ring := kept }
            admission :=
              if s.journal.ring.length = 1024 ∧ kept.length < 1024 then
                releasedWhere (fun reason _ _ => reason == .jfull) s
              else s.admission
            readySeq := seq }))

/-- ANSWER OK to a RESTORE: the record before the tail is freed, and so is the run of VOID records below it; the engine then
hands out the RESTORE of the next VALID record, or is complete at the target's mark (R76, R91, R118 to R120, R123). -/
def Obligations.RestoreOkGoesOnOrCompletes : Prop :=
  ∀ (s : State) (identity : Fin 16) (e : RestoreEntry) (lanes : LineData) (target : Checkpoint) (last : Option Record)
    (kept voids : List (Option Record)),
    s.porn = true → s.link.quiesce = none → s.mport.quietSince = none → identity.val = 8 →
    s.tracker.restore = some e → e.op = .outstanding → s.engine.state = .restore → s.engine.stopping = false →
    occupancy s.journal ≤ 1024 → s.stack.checkpoints.getLast? = some target → s.journal.ring = kept ++ voids ++ [last] →
    (∀ slot ∈ voids, ∃ x, slot = some x ∧ x.state = .void) →
    (target.distance = voids.length + 1 →
      exec (.answer identity (.ok lanes)) s =
        .next (completes (drawnBack kept (voids.length + 1)
          { s with tracker := { s.tracker with restore := none }, engine := { s.engine with retry := false } }))) ∧
      ∀ x pre, voids.length + 1 < target.distance → kept.getLast? = some (some x) → x.state = .valid pre →
        exec (.answer identity (.ok lanes)) s =
          .next (restoreHanded x.line pre (drawnBack kept (voids.length + 1)
            { s with tracker := { s.tracker with restore := none }, engine := { s.engine with retry := false } }))

/-- ANSWER ERROR to a RESTORE: the first attempt is handed out again with retry set; the second sends the engine to FAILED with
the record kept, RBFAIL set and the ROLLBACK waiters released (R121, R122). A stopping engine carries the RESTORE in flight to
its answer and no further: OK frees that one record, ERROR leaves it, and no RESTORE is handed out, nothing but a fall from
1024 releases, no flag is set and the engine stays as it is until step 4, which follows at once if it was awaited (R129,
R173). That retry is clear after such an ERROR is the model's choice (notes/assumptions/11.md). -/
def Obligations.RestoreErrorsAndStopping : Prop :=
  (∀ (s : State) (identity : Fin 16) (e : RestoreEntry),
     s.porn = true → s.link.quiesce = none → s.mport.quietSince = none → identity.val = 8 →
     s.tracker.restore = some e → e.op = .outstanding → s.engine.stopping = false →
     (s.engine.retry = false →
       exec (.answer identity .error) s =
         .next { s with
           engine := { s.engine with retry := true }
           tracker := { s.tracker with restore := some { e with op := .toIssue } } }) ∧
       (s.engine.retry = true →
         exec (.answer identity .error) s =
           .next { s with
             engine := { s.engine with state := .failed, span := none, retry := false }
             tracker := { s.tracker with restore := none }
             events := { s.events with flags := s.events.flags ||| 0x100#9 }
             admission := releasedWhere (fun reason _ _ => reason == .rollback) s })) ∧
    ∀ (s : State) (identity : Fin 16) (e : RestoreEntry) (lanes : LineData) (last : Option Record)
      (kept : List (Option Record)),
      s.porn = true → s.mport.quietSince = none → identity.val = 8 → s.tracker.restore = some e → e.op = .outstanding →
      s.engine.stopping = true →
      (exec (.answer identity .error) s =
        .next (settleQuiesce { s with
          tracker := { s.tracker with restore := none }
          engine := { s.engine with retry := false } })) ∧
        (s.journal.ring = kept ++ [last] →
          exec (.answer identity (.ok lanes)) s =
            .next (settleQuiesce (drawnBack kept 1
              { s with
                tracker := { s.tracker with restore := none }
                engine := { s.engine with retry := false } })))

/-- An answer is discarded that names identity 9 to 15 or an entry without an operation outstanding, or that comes while PORn
is low or in the quiet interval (R15). -/
def Obligations.StrayAnswersAreDiscarded : Prop :=
  ∀ (s : State) (identity : Fin 16) (a : MemAnswer),
    s.porn = false ∨ s.mport.quietSince ≠ none ∨ 9 ≤ identity.val ∨
        (identity.val < 8 ∧ ∀ e ∈ s.tracker.hosts, e.id.val = identity.val → e.op ≠ .outstanding) ∨
        (identity.val = 8 ∧ ∀ e, s.tracker.restore = some e → e.op ≠ .outstanding) →
    exec (.answer identity a) s = .next s

/-! ## Resets and intervals -/

/-- PORN_ASSERT drops everything the ports and the blocks hold: requests, entries, records, open checkpoints, a rollback under
way, flags and the capture record; LOSTRB and the parameters but EVENT_ENABLE wait for the release. PORN_RELEASE gives every
block its power-on values, with the quiet interval and the initialisation beginning (R16, R17, R37, R65, R85, R88, R107, R110,
R131, R144, R156, R169, R187, R190). The readySeq 0 and the empty shifted after the release are values of the model's own fields
(notes/assumptions/16.md), and that the blocks hold their power-on values while PORn is low is the model's choice
(notes/assumptions/8.md). -/
def Obligations.PornGivesPowerOnValues : Prop :=
  ∀ s : State,
    (s.porn = true →
      ∃ t, exec .pornAssert s = .next t ∧ t.porn = false ∧
        t.hport = { taking := none, intake := [], outstanding := [], offered := none } ∧ t.mport.presented = none ∧
        t.mport.quietSince = none ∧ t.admission = { waitList := [], held := none, stalledOn := none } ∧
        t.tracker = { hosts := [], restore := none } ∧ t.journal = { readiness := .notReady, head := 0, ring := [] } ∧
        t.stack = { checkpoints := [], nextEpoch := 1#16 } ∧
        t.engine =
          { state := .idle, span := none, retry := false, stopping := false, lostrb := s.engine.lostrb } ∧
        t.timer.state = .off ∧ t.timer.elapsed = 0 ∧ t.events = { flags := 0#9, capture := none } ∧
        t.params = { s.params with eventEnable := 0#9 } ∧ t.link.quiesce = none ∧ t.regions = State.reset.regions) ∧
      (s.porn = false →
        exec .pornRelease s =
          .next
            { porn := true
              now := s.now
              hport := { taking := none, intake := [], outstanding := [], offered := none }
              mport := { presented := none, quietSince := some s.now }
              regions :=
                { active := Vector.replicate 12 ⟨false, 0#27, 0#27, .pass, 0#8⟩
                  staged := Vector.replicate 12 ⟨false, 0#27, 0#27, .pass, 0#8⟩
                  dirty := false
                  software := Vector.replicate 12 .opened }
              admission := { waitList := [], held := none, stalledOn := none }
              tracker := { hosts := [], restore := none }
              journal := { readiness := .initialising s.now, head := 0, ring := [] }
              stack := { checkpoints := [], nextEpoch := 1#16 }
              engine := { state := .idle, span := none, retry := false, stopping := false, lostrb := false }
              timer := { state := .off, elapsed := 0, divider := 0, period := 64 }
              events := { flags := 0#9, capture := none }
              params :=
                { defaultPolicy := .pass, fullAction := .wait, jhighLevel := 768, waitLimit := 11, dlEnable := false
                  dlPeriod := 6, dlTarget := .newest, eventEnable := 0#9 }
              link :=
                { expected := false, repeatResponse := ⟨true, .resetDone, [0x00#8]⟩
                  fetchResponse := some ⟨true, .resetDone, [0x00#8]⟩, quiesce := none, shifted := [] }
              readySeq := 0
              choices := s.choices
              pending := s.pending })

/-- QUIET_INTERVAL_END comes 64 µs after the release of PORn, JOURNAL_READY 128 µs after the initialisation began, with the
journal empty at head 0 and READY set; neither comes before (R17, R85, R87). FIRST_EXPIRY: a RUNNING timer whose elapsed time
has reached the period in force sets DLWARN and is WARNED with elapsed time 0, the divider afresh and the period kept; nothing
else changes (R140). That the rows put into the queue before their time change nothing is the model's choice
(notes/assumptions/3.md). -/
def Obligations.TimedEventsComeOnTime : Prop :=
  (∀ (s : State) (began : Nat), s.porn = true →
     (s.mport.quietSince = some began →
       exec .quietIntervalEnd s =
         .next (if began + 64 ≤ s.now then { s with mport := { s.mport with quietSince := none } } else s)) ∧
       (s.journal.readiness = .initialising began →
         exec .journalReady s =
           .next
             (if began + 128 ≤ s.now then
               { s with
                 journal := { readiness := .ready, head := 0, ring := [] }
                 events := { s.events with flags := s.events.flags ||| 0x001#9 } }
             else s))) ∧
    ∀ s : State, s.porn = true → s.timer.state = .running →
      exec .firstExpiry s =
        .next
          (if s.timer.period ≤ s.timer.elapsed then
            { s with
              timer := { s.timer with state := .warned, elapsed := 0, divider := 0 }
              events := { s.events with flags := s.events.flags ||| 0x020#9 } }
          else s)

/-- SECOND_EXPIRY: a WARNED timer whose elapsed time has reached the period in force sets DLROLL and has the rollback to the
newest or the oldest checkpoint accepted, as DL_TARGET says: the span is fixed, the timer is SUSPENDED, and the engine drains;
or, with the drain condition true, it frees the run of VOID records before the tail at once, and hands out the RESTORE of the
VALID record below them, or is complete when they are the whole span, as when it is empty (R112 to R115, R118, R119, R123,
R141). -/
def Obligations.SecondExpiryRollsBack : Prop :=
  ∀ (s : State) (k : Nat) (target : Checkpoint) (entered : State),
    s.porn = true → s.timer.state = .warned → s.timer.period ≤ s.timer.elapsed → s.journal.readiness = .ready →
    s.engine.state = .idle → s.engine.stopping = false →
    k = (if s.params.dlTarget = .newest then depth s - 1 else 0) → s.stack.checkpoints[k]? = some target →
    entered = { rollbackEntered k target s with events := { s.events with flags := s.events.flags ||| 0x040#9 } } →
    (drainHolds entered = false → exec .secondExpiry s = .next entered) ∧
      ∀ kept voids : List (Option Record), drainHolds entered = true → s.journal.ring = kept ++ voids →
        (∀ slot ∈ voids, ∃ x, slot = some x ∧ x.state = .void) →
        (target.distance = voids.length →
          exec .secondExpiry s = .next (completes (drawnBack kept voids.length entered))) ∧
          ∀ x pre, voids.length < target.distance → kept.getLast? = some (some x) → x.state = .valid pre →
            exec .secondExpiry s = .next (restoreHanded x.line pre (drawnBack kept voids.length entered))

/-! ## The service link -/

/-- FRAME_ERROR stores FRAMEERR for the next fetch and REPEAT_FRAME the repeat-response, whatever its code and payload; the
expected toggle and the repeat-response stay, and nothing outside the link changes (R163, R166). FETCH_PERIOD shifts out the
bits of the fetch-response and then zeros, and empties it exactly when the period has shifted out all of it through the CRC
(R167); in a quiesce, and in a period begun in one, whenever it ends, it carries zeros and empties nothing (R174); one that PORn
cut changes nothing (R169). SDO is at high impedance while SSELn is high and while PORn is low. Else it is driven: low from the
fall of SSELn through the marker byte of every period, through command and ignored periods, and through a fetch period that the
quiesce or PORn voids; and in a fetch period with the stored response, a bit at a time, each after the falling edge of SCLK that
follows the sampling of the bit before it (R158, R159, R167, R169, R174). That SDO is low after the release in a period across
PORn is read from R159 (notes/assumptions/10.md). -/
def Obligations.PeriodsWithoutExecution : Prop :=
  (∀ s : State, s.porn = true → s.link.quiesce = none →
     (∀ bits, readPeriod bits = .error →
       exec (.frameError .live bits) s =
         .next { s with link := { s.link with fetchResponse := some ⟨false, .frameErr, []⟩ } }) ∧
       ∀ (code : BitVec 7) (f : Frame), f.start = .live → f.payload.length ≤ 40 → f.toggle ≠ s.link.expected →
         exec (.repeatFrame code f) s =
           .next { s with link := { s.link with fetchResponse := some s.link.repeatResponse } }) ∧
    (∀ (s : State) (clocked : Nat), s.porn = true →
      (s.link.quiesce = none →
        ∃ t, exec (.fetchPeriod .live clocked) s = .next t ∧
          t = { s with link := { s.link with shifted := t.link.shifted, fetchResponse := t.link.fetchResponse } } ∧
          t.link.shifted.length = clocked ∧
          (s.link.fetchResponse = none → t.link.fetchResponse = none ∧ ∀ bit ∈ t.link.shifted, bit = false) ∧
          ∀ x, s.link.fetchResponse = some x →
            t.link.fetchResponse = (if 8 * (x.payload.length + 3) ≤ clocked then none else some x) ∧
              ∀ i < clocked,
                t.link.shifted[i]? =
                  some (((bitsOfBytes (frameBytes x.toggle (statusCode x.status) x.payload))[i]?).getD false)) ∧
        (∀ start, start ≠ .acrossPorn → s.link.quiesce ≠ none ∨ start = .inQuiesce →
          exec (.fetchPeriod start clocked) s =
            .next { s with link := { s.link with shifted := List.replicate clocked false } }) ∧
        exec (.fetchPeriod .acrossPorn clocked) s = .next s) ∧
    ∀ s : State, sdo s .high = .highImpedance ∧ (s.porn = false → ∀ line, sdo s line = .highImpedance) ∧
      (s.porn = true →
        (∀ start sampled fallen,
          sampled.take 8 ≠ bitsOfByte 0x3A#8 ∨ start ≠ .live ∨ s.link.quiesce ≠ none →
          sdo s (.low start sampled fallen) = .driven false) ∧
        (s.link.quiesce = none →
          sdo s (.low .live (bitsOfByte 0x3A#8) false) = .driven false ∧
          ∀ (after : List Bool) (bit level : Bool),
            (match s.link.fetchResponse with
              | none => level = false
              | some x =>
                level = ((bitsOfBytes (frameBytes x.toggle (statusCode x.status) x.payload))[after.length]?).getD false) →
            sdo s (.low .live (bitsOfByte 0x3A#8 ++ after) true) = .driven level ∧
              sdo s (.low .live (bitsOfByte 0x3A#8 ++ after ++ [bit]) false) = .driven level))

/-- The generic checks in their order: UNKNOWN for a code that is no command's, whatever its length; BADLENGTH; NOTREADY for
the five journal-dependent commands. Nothing outside the link changes, and the frame counts as executed (R165, R177). -/
def Obligations.GenericChecksComeFirst : Prop :=
  ∀ (s : State) (f : Frame), Receives f s → f.payload.length ≤ 40 →
    (∀ code, isKnownCode code = false →
      exec (.unknownCommand code f) s = .next { s with link := answeredLink f .unknown [] s.link }) ∧
      ∀ c length, frameOf c = some f → payloadLength c = some length →
        (f.payload.length ≠ length → exec c s = .next { s with link := answeredLink f .badLength [] s.link }) ∧
          (f.payload.length = length → journalDependent c → s.journal.readiness ≠ .ready →
            exec c s = .next { s with link := answeredLink f .notReady [] s.link })

/-- IDENTIFY, READ_STATUS, READ_EVENTS, READ_CAPTURE and READ_CHECKPOINTS answer DONE with the bytes of R183, R185, R186 and
R191 and change nothing but the link, at every depth, in every engine state, READY or not. -/
def Obligations.ReadsAnswerTheirBytes : Prop :=
  ∀ (s : State) (f : Frame), Receives f s → f.payload = [] →
    exec (.identify f) s = .next { s with link := answeredLink f .done [0xAD#8, 0x04#8, 0x20#8, 0x03#8] s.link } ∧
      exec (.readStatus f) s =
        .next { s with
          link :=
            answeredLink f .done
              ([BitVec.ofNat 8
                  ((if s.journal.readiness = .ready then 128 else 0) + (if s.engine.lostrb then 64 else 0) +
                    (if s.events.capture = none then 0 else 32) + (if s.regions.dirty then 16 else 0) +
                    4 * (match s.engine.state with | .idle => 0 | .drain => 1 | .restore => 2 | .failed => 3) +
                    (match s.timer.state with | .off => 0 | .running => 1 | .warned => 2 | .suspended => 3)),
                BitVec.ofNat 8 s.stack.checkpoints.length] ++
                be16 (currentEpoch s).toNat ++ be16 s.stack.nextEpoch.toNat ++ be16 s.journal.head ++
                be16 ((s.journal.head + s.journal.ring.length) % 1024) ++ be16 s.journal.ring.length ++
                [BitVec.ofNat 8 s.admission.waitList.length, BitVec.ofNat 8 s.tracker.hosts.length] ++
                be16 s.events.flags.toNat)
              s.link } ∧
      exec (.readEvents f) s =
        .next { s with
          link := answeredLink f .done (be16 s.events.flags.toNat ++ be16 s.params.eventEnable.toNat) s.link } ∧
      (s.events.capture = none →
        exec (.readCapture f) s =
          .next { s with
            link := answeredLink f .done (List.replicate 10 0x00#8 ++ [0xFF#8] ++ List.replicate 3 0x00#8) s.link }) ∧
      (∀ x, s.events.capture = some x →
        exec (.readCapture f) s =
          .next { s with
            link :=
              answeredLink f .done
                ([0x01#8, reasonCode x.reason,
                    if x.reason = .preReadFault ∨ x.reason = .memFault then 0x02#8 else 0x01#8,
                    BitVec.ofNat 8 x.initiator.val, BitVec.ofNat 8 x.tag.val, if x.kind = .read then 0x00#8 else 0x01#8] ++
                  be32 (4 * x.address.toNat) ++
                  [match x.region with | none => 0xFF#8 | some i => BitVec.ofNat 8 i.val] ++ be16 x.epoch.toNat ++
                  [BitVec.ofNat 8 x.further])
                s.link }) ∧
      (s.stack.checkpoints.length ≤ 4 →
        exec (.readCheckpoints f) s =
          .next { s with
            link :=
              answeredLink f .done
                ([BitVec.ofNat 8 s.stack.checkpoints.length] ++ be16 s.stack.nextEpoch.toNat ++
                  (s.stack.checkpoints.flatMap fun x => be16 x.epoch.toNat ++ be16 x.mark ++ be16 x.distance) ++
                  List.replicate (6 * (4 - s.stack.checkpoints.length)) 0x00#8)
                s.link })

/-- READ_PARAM: an unknown identifier is refused BADARG; any other is answered DONE with the identifier and the value as it
stands, for DL_PERIOD the stored code; nothing but the link changes, and no other state is looked at (R187, R188). -/
def Obligations.ReadParamAnswersTheValue : Prop :=
  ∀ (s : State) (f : Frame) (identifier : Byte), Receives f s → f.payload = [identifier] →
    exec (.readParam f) s =
      .next { s with
        link :=
          match identifier.toNat with
          | 1 => answeredLink f .done (identifier :: be16 (if s.params.defaultPolicy = .pass then 0 else 1)) s.link
          | 2 => answeredLink f .done (identifier :: be16 (if s.params.fullAction = .wait then 0 else 1)) s.link
          | 3 => answeredLink f .done (identifier :: be16 s.params.jhighLevel) s.link
          | 4 => answeredLink f .done (identifier :: be16 s.params.waitLimit) s.link
          | 5 => answeredLink f .done (identifier :: be16 (if s.params.dlEnable then 1 else 0)) s.link
          | 6 => answeredLink f .done (identifier :: be16 s.params.dlPeriod) s.link
          | 7 => answeredLink f .done (identifier :: be16 (if s.params.dlTarget = .newest then 0 else 1)) s.link
          | 8 => answeredLink f .done (identifier :: be16 s.params.eventEnable.toNat) s.link
          | _ => answeredLink f .badArg [] s.link }

/-- READ_REGION and READ_JOURNAL answer with the bytes of R182 and R184, or BADARG outside their ranges, and change nothing
but the link (R36, R89). -/
def Obligations.TablesAndJournalReadBack : Prop :=
  ∀ (s : State) (f : Frame), Receives f s →
    (∀ index table, f.payload = [index, table] →
      (∀ i : RegionIndex, index.toNat = i.val → table.toNat ≤ 1 →
        exec (.readRegion f) s =
          .next { s with
            link :=
              answeredLink f .done
                (let e := if table = 0x00#8 then s.regions.active.get i else s.regions.staged.get i
                [if e.valid then 0x01#8 else 0x00#8] ++ be32 e.base.toNat ++ be32 e.limit.toNat ++
                  [match e.mode with | .pass => 0x00#8 | .journal => 0x01#8 | .readOnly => 0x02#8, e.mask,
                    match s.regions.software.get i with | .opened => 0x00#8 | .hold => 0x01#8 | .shut => 0x02#8])
                s.link }) ∧
        (12 ≤ index.toNat ∨ 2 ≤ table.toNat →
          exec (.readRegion f) s = .next { s with link := answeredLink f .badArg [] s.link })) ∧
      ∀ hi lo, f.payload = [hi, lo] → s.journal.readiness = .ready →
        (1024 ≤ 256 * hi.toNat + lo.toNat →
          exec (.readJournal f) s = .next { s with link := answeredLink f .badArg [] s.link }) ∧
          (256 * hi.toNat + lo.toNat < 1024 →
            (recordAt s.journal (256 * hi.toNat + lo.toNat) = none →
              exec (.readJournal f) s = .next { s with link := answeredLink f .done (List.replicate 8 0x00#8) s.link }) ∧
              ∀ x, recordAt s.journal (256 * hi.toNat + lo.toNat) = some x →
                exec (.readJournal f) s =
                  .next { s with
                    link :=
                      answeredLink f .done
                        ([match x.state with
                            | .reserved orphan => if orphan then 0x05#8 else 0x01#8
                            | .valid _ => 0x02#8
                            | .void => 0x03#8] ++
                          be16 x.epoch.toNat ++ be32 x.line.toNat ++
                          [BitVec.ofNat 8 (16 * x.initiator.val + x.region.val)] ++
                          (match x.state with
                            | .valid pre => pre.toList.flatMap fun w => be32 w.toNat
                            | .reserved _ | .void => []))
                        s.link })

/-- CLEAR_EVENTS clears the flags of its mask, refusing one with a bit above index 8, and answers the flags that are left;
ACK_CAPTURE answers what READ_CAPTURE does and makes the record invalid, leaving VIOL alone (R147, R155). -/
def Obligations.FlagsAndCaptureAreCleared : Prop :=
  ∀ (s : State) (f : Frame), Receives f s →
    (∀ hi lo, f.payload = [hi, lo] →
      exec (.clearEvents f) s =
        .next
          (if 512 ≤ 256 * hi.toNat + lo.toNat then { s with link := answeredLink f .badArg [] s.link }
          else
            { s with
              events := { s.events with flags := s.events.flags &&& ~~~(BitVec.ofNat 9 (256 * hi.toNat + lo.toNat)) }
              link :=
                answeredLink f .done
                  (be16 (s.events.flags &&& ~~~(BitVec.ofNat 9 (256 * hi.toNat + lo.toNat))).toNat) s.link })) ∧
      (f.payload = [] →
        ∃ bytes, exec (.readCapture f) s = .next { s with link := answeredLink f .done bytes s.link } ∧
          exec (.ackCapture f) s =
            .next { s with events := { s.events with capture := none }, link := answeredLink f .done bytes s.link })

/-- The accepted writes of JHIGH_LEVEL, WAIT_LIMIT, DL_PERIOD, DL_TARGET and EVENT_ENABLE store the value and do nothing else;
that of DEFAULT_POLICY releases every waiting request, whether or not the value changes, and that of FULL_ACTION the JFULL
ones when it replaces WAIT by REFUSE; a value outside the range is refused BADARG, and so is an identifier that names no
parameter; a refused write stores and releases nothing (R23, R53, R55, R82, R84, R139, R149, R187, R189). A frame with such an
identifier may be given to any of the eight rows, which is the model's choice (notes/assumptions/6.md). -/
def Obligations.ParameterWritesTakeEffect : Prop :=
  (∀ (s : State) (f : Frame) (hi lo : Byte), Receives f s →
     (f.payload = [0x03#8, hi, lo] →
       exec (.writeJhighLevel f) s =
         .next
           (if 256 * hi.toNat + lo.toNat ≤ 1024 then
             { s with
               params := { s.params with jhighLevel := 256 * hi.toNat + lo.toNat }
               link := answeredLink f .done f.payload s.link }
           else { s with link := answeredLink f .badArg [] s.link })) ∧
       (f.payload = [0x04#8, hi, lo] →
         exec (.writeWaitLimit f) s =
           .next
             (if 256 * hi.toNat + lo.toNat ≤ 15 then
               { s with
                 params := { s.params with waitLimit := 256 * hi.toNat + lo.toNat }
                 link := answeredLink f .done f.payload s.link }
             else { s with link := answeredLink f .badArg [] s.link })) ∧
       (f.payload = [0x06#8, hi, lo] →
         exec (.writeDlPeriod f) s =
           .next
             (if 256 * hi.toNat + lo.toNat ≤ 10 then
               { s with
                 params := { s.params with dlPeriod := 256 * hi.toNat + lo.toNat }
                 link := answeredLink f .done f.payload s.link }
             else { s with link := answeredLink f .badArg [] s.link })) ∧
       (f.payload = [0x07#8, hi, lo] →
         exec (.writeDlTarget f) s =
           .next
             (if 256 * hi.toNat + lo.toNat ≤ 1 then
               { s with
                 params := { s.params with dlTarget := if lo = 0x00#8 then .newest else .oldest }
                 link := answeredLink f .done f.payload s.link }
             else { s with link := answeredLink f .badArg [] s.link })) ∧
       (f.payload = [0x08#8, hi, lo] →
         exec (.writeEventEnable f) s =
           .next
             (if 256 * hi.toNat + lo.toNat ≤ 511 then
               { s with
                 params := { s.params with eventEnable := BitVec.ofNat 9 (256 * hi.toNat + lo.toNat) }
                 link := answeredLink f .done f.payload s.link }
             else { s with link := answeredLink f .badArg [] s.link }))) ∧
    (∀ (s : State) (f : Frame) (hi lo : Byte), Receives f s →
      (f.payload = [0x01#8, hi, lo] →
        exec (.writeDefaultPolicy f) s =
          .next
            (if 256 * hi.toNat + lo.toNat ≤ 1 then
              { s with
                params := { s.params with defaultPolicy := if lo = 0x00#8 then .pass else .refuse }
                admission := releasedWhere (fun _ _ _ => true) s
                link := answeredLink f .done f.payload s.link }
            else { s with link := answeredLink f .badArg [] s.link })) ∧
        (f.payload = [0x02#8, hi, lo] →
          exec (.writeFullAction f) s =
            .next
              (if 256 * hi.toNat + lo.toNat ≤ 1 then
                { s with
                  params := { s.params with fullAction := if lo = 0x00#8 then .wait else .refuse }
                  admission :=
                    if s.params.fullAction = .wait ∧ lo = 0x01#8 then releasedWhere (fun reason _ _ => reason == .jfull) s
                    else s.admission
                  link := answeredLink f .done f.payload s.link }
              else { s with link := answeredLink f .badArg [] s.link }))) ∧
    ∀ (s : State) (f : Frame) (identifier hi lo : Byte), Receives f s → f.payload = [identifier, hi, lo] →
      identifier.toNat = 0 ∨ 9 ≤ identifier.toNat →
      ∀ c ∈ [Instr.writeDefaultPolicy f, .writeFullAction f, .writeJhighLevel f, .writeWaitLimit f, .writeDlEnable f,
          .writeDlPeriod f, .writeDlTarget f, .writeEventEnable f],
        exec c s = .next { s with link := answeredLink f .badArg [] s.link }

/-- The accepted write of DL_ENABLE: on replacing off leaves the timer OFF at depth 0, restarts it with the engine IDLE, and
makes it SUSPENDED with the engine DRAIN, RESTORE or FAILED; off replacing on makes it OFF with elapsed time 0; the value
already in force leaves it unchanged. Nothing else changes: no flag is cleared and no rollback stopped (R138). A value of 2 or
more is refused BADARG and changes neither the parameter nor the timer (R134, R189). -/
def Obligations.DlEnableActsAtOnce : Prop :=
  ∀ (s : State) (f : Frame) (hi lo : Byte), Receives f s → f.payload = [0x05#8, hi, lo] →
    (2 ≤ 256 * hi.toNat + lo.toNat →
      exec (.writeDlEnable f) s = .next { s with link := answeredLink f .badArg [] s.link }) ∧
      (256 * hi.toNat + lo.toNat ≤ 1 →
        ∃ t, exec (.writeDlEnable f) s = .next t ∧
          t = { s with
            params := { s.params with dlEnable := lo == 0x01#8 }
            timer := t.timer
            link := answeredLink f .done f.payload s.link } ∧
          (s.params.dlEnable = (lo == 0x01#8) → t.timer = s.timer) ∧
          (s.params.dlEnable = true → lo = 0x00#8 →
            t.timer = { s.timer with state := .off, elapsed := 0, divider := 0 }) ∧
          (s.params.dlEnable = false → lo = 0x01#8 →
            (depth s = 0 → t.timer = s.timer) ∧
              (1 ≤ depth s → s.engine.state = .idle →
                t.timer = { state := .running, elapsed := 0, divider := 0, period := 2 ^ s.params.dlPeriod }) ∧
              (1 ≤ depth s → s.engine.state ≠ .idle →
                t.timer = { s.timer with state := .suspended, elapsed := 0, divider := 0 })))

/-! ## The region commands -/

/-- STAGE_REGION writes one whole staged entry, valid, or is refused BADARG and changes nothing; the arguments, their ranges and
the order of base and limit are all it looks at, and staged-dirty then says whether the tables differ (R20, R30, R182). -/
def Obligations.StageRegionWritesOneEntry : Prop :=
  ∀ (s : State) (f : Frame) (index b3 b2 b1 b0 l3 l2 l1 l0 mode mask : Byte), Receives f s →
    f.payload = [index, b3, b2, b1, b0, l3, l2, l1, l0, mode, mask] →
    ∀ base limit : Nat,
      base = 16777216 * b3.toNat + 65536 * b2.toNat + 256 * b1.toNat + b0.toNat →
      limit = 16777216 * l3.toNat + 65536 * l2.toNat + 256 * l1.toNat + l0.toNat →
      (12 ≤ index.toNat ∨ 134217728 ≤ base ∨ 134217728 ≤ limit ∨ limit < base ∨ 3 ≤ mode.toNat →
        exec (.stageRegion f) s = .next { s with link := answeredLink f .badArg [] s.link }) ∧
        ∀ i : RegionIndex, index.toNat = i.val → base < 134217728 → limit < 134217728 → base ≤ limit → mode.toNat < 3 →
          ∃ t, exec (.stageRegion f) s = .next t ∧
            t = { s with regions := t.regions, link := answeredLink f .done [] s.link } ∧
            t.regions.active = s.regions.active ∧ t.regions.software = s.regions.software ∧
            (∀ j : RegionIndex,
              t.regions.staged.get j =
                if j = i then
                  { valid := true, base := BitVec.ofNat 27 base, limit := BitVec.ofNat 27 limit
                    mode := if mode.toNat = 0 then .pass else if mode.toNat = 1 then .journal else .readOnly
                    mask := mask }
                else s.regions.staged.get j) ∧
            dirtyExact t

/-- CLEAR_STAGED makes one staged entry invalid, or is refused BADARG for an index above 11 and changes nothing (R31);
REVERT_STAGED copies the active table into the staged one and clears staged-dirty (R32). -/
def Obligations.StagedEntriesAreClearedAndReverted : Prop :=
  ∀ (s : State) (f : Frame), Receives f s →
    (∀ index, f.payload = [index] →
      (12 ≤ index.toNat → exec (.clearStaged f) s = .next { s with link := answeredLink f .badArg [] s.link }) ∧
        ∀ i : RegionIndex, index.toNat = i.val →
          ∃ t, exec (.clearStaged f) s = .next t ∧
            t = { s with regions := t.regions, link := answeredLink f .done [] s.link } ∧
            t.regions.active = s.regions.active ∧ t.regions.software = s.regions.software ∧
            (∀ j : RegionIndex,
              t.regions.staged.get j = if j = i then ⟨false, 0#27, 0#27, .pass, 0#8⟩ else s.regions.staged.get j) ∧
            dirtyExact t) ∧
      (f.payload = [] →
        exec (.revertStaged f) s =
          .next { s with
            regions := { s.regions with staged := s.regions.active, dirty := false }
            link := answeredLink f .done [] s.link })

/-- APPLY_REGIONS is refused BUSY unless the engine is IDLE and DEPTH above depth 0; accepted it promotes and releases every
waiting request, staged-dirty set or not (R33, R35). SET_REGION_STATE sets the state of one index at once and, if it changes,
releases the HOLD waiters of that index and no other; an index or state outside its range is refused BADARG (R28, R53). -/
def Obligations.RegionCommandsActAtOnce : Prop :=
  (∀ (s : State) (f : Frame), Receives f s → f.payload = [] →
     exec (.applyRegions f) s =
       .next
         (if s.engine.state ≠ .idle then { s with link := answeredLink f .busy [] s.link }
         else if 1 ≤ depth s then { s with link := answeredLink f .depth [] s.link }
         else
           { s with
             regions := { s.regions with active := s.regions.staged, dirty := false }
             admission := releasedWhere (fun _ _ _ => true) s
             link := answeredLink f .done [] s.link })) ∧
    ∀ (s : State) (f : Frame) (index state : Byte), Receives f s → f.payload = [index, state] →
      (12 ≤ index.toNat ∨ 3 ≤ state.toNat →
        exec (.setRegionState f) s = .next { s with link := answeredLink f .badArg [] s.link }) ∧
        ∀ (i : RegionIndex) (v : SoftwareState), index.toNat = i.val →
          state.toNat = (match v with | .opened => 0 | .hold => 1 | .shut => 2) →
          exec (.setRegionState f) s =
            .next { s with
              regions := { s.regions with software := s.regions.software.set i v }
              admission :=
                if s.regions.software.get i = v then s.admission
                else releasedWhere (fun reason region _ => reason == .hold && region == some i) s
              link := answeredLink f .done [] s.link }

/-! ## The checkpoint commands -/

/-- The refusals of the journal-dependent commands' own checks, in their order, with nothing changed but the link (R95, R99,
R102, R111). -/
def Obligations.CheckpointCommandsAreRefused : Prop :=
  ∀ (s : State) (f : Frame), Receives f s → s.journal.readiness = .ready →
    (s.engine.state = .drain ∨ s.engine.state = .restore →
      (f.payload = [] → exec (.mark f) s = .next { s with link := answeredLink f .busy [] s.link }) ∧
        (f.payload.length = 1 → exec (.release f) s = .next { s with link := answeredLink f .busy [] s.link }) ∧
        (f.payload = [] → exec (.discard f) s = .next { s with link := answeredLink f .busy [] s.link }) ∧
        (f.payload.length = 2 → exec (.rollback f) s = .next { s with link := answeredLink f .busy [] s.link })) ∧
      (s.engine.state = .failed →
        (f.payload = [] → exec (.mark f) s = .next { s with link := answeredLink f .faulted [] s.link }) ∧
          (f.payload.length = 1 → exec (.release f) s = .next { s with link := answeredLink f .faulted [] s.link })) ∧
      (s.engine.state = .idle →
        (f.payload = [] → 4 ≤ depth s → exec (.mark f) s = .next { s with link := answeredLink f .depth [] s.link }) ∧
          ∀ n, f.payload = [n] →
            (depth s = 0 → exec (.release f) s = .next { s with link := answeredLink f .noCheckpoint [] s.link }) ∧
              (1 ≤ depth s → n.toNat = 0 ∨ depth s < n.toNat →
                exec (.release f) s = .next { s with link := answeredLink f .badArg [] s.link })) ∧
      ∀ hi lo, s.engine.state = .idle ∨ s.engine.state = .failed → f.payload = [hi, lo] →
        (hi ++ lo = 0#16 ∨ ∀ x ∈ s.stack.checkpoints, x.epoch ≠ hi ++ lo) →
        exec (.rollback f) s = .next { s with link := answeredLink f .noCheckpoint [] s.link }

/-- MARK: the new checkpoint takes the counter's value, the tail and distance 0; the staged table is promoted and every waiting
request released when staged-dirty is set; the timer restarts; LOSTRB is cleared; the answer carries the epoch (R34, R96). -/
def Obligations.MarkOpensACheckpoint : Prop :=
  ∀ (s : State) (f : Frame), Receives f s → f.payload = [] → s.journal.readiness = .ready → s.engine.state = .idle →
    depth s < 4 →
    exec (.mark f) s =
      .next { s with
        stack :=
          { checkpoints :=
              s.stack.checkpoints ++
                [{ epoch := s.stack.nextEpoch, mark := (s.journal.head + s.journal.ring.length) % 1024, distance := 0 }]
            nextEpoch := (pushCheckpoint s).stack.nextEpoch }
        regions := if s.regions.dirty then { s.regions with active := s.regions.staged, dirty := false } else s.regions
        admission := if s.regions.dirty then releasedWhere (fun _ _ _ => true) s else s.admission
        timer := restarted s
        engine := { s.engine with lostrb := false }
        link := answeredLink f .done (be16 s.stack.nextEpoch.toNat) s.link }

/-- RELEASE(n): the n oldest checkpoints are removed; of the records of their epochs the VALID and VOID ones are freed and the
RESERVED ones become orphans; the head advances past the FREED positions before it; the timer restarts, or goes OFF at depth
0; the JFULL waiters are released (R75, R79, R100). -/
def Obligations.ReleaseGivesUpTheOldest : Prop :=
  ∀ (s : State) (f : Frame) (n : Byte) (freed kept : List (Option Record)), Receives f s → f.payload = [n] →
    s.journal.readiness = .ready → s.engine.state = .idle → 1 ≤ n.toNat → n.toNat ≤ depth s →
    (s.journal.ring.map fun slot =>
        slot.bind fun x =>
          if x.epoch ∈ (s.stack.checkpoints.take n.toNat).map Checkpoint.epoch then
            match x.state with
            | .reserved _ => some { x with state := .reserved true }
            | .valid _ | .void => none
          else some x) = freed ++ kept →
    (∀ slot ∈ freed, slot = none) → kept.head? ≠ some none →
    exec (.release f) s =
      .next { s with
        stack := { s.stack with checkpoints := s.stack.checkpoints.drop n.toNat }
        journal := { s.journal with head := (s.journal.head + freed.length) % 1024, ring := kept }
        timer :=
          if n.toNat = depth s then { s.timer with state := .off, elapsed := 0, divider := 0 } else restarted s
        admission := releasedWhere (fun reason _ _ => reason == .jfull) s
        link :=
          answeredLink f .done
            ([BitVec.ofNat 8 (depth s - n.toNat)] ++ be16 (if n.toNat = depth s then 0 else (currentEpoch s).toNat)) s.link }

/-- ROLLBACK to an open checkpoint is answered STARTED with the epoch and the span length: the newer checkpoints are removed, the
span is fixed, the timer is SUSPENDED, and the engine drains; or, with the drain condition true, it frees the run of VOID
records before the tail at once, and hands out the RESTORE of the VALID record below them, or is complete when they are the
whole span, as when it is empty. From FAILED it resumes in the same way (R105, R111 to R115, R118, R119, R123, R127). -/
def Obligations.RollbackIsStarted : Prop :=
  ∀ (s : State) (f : Frame) (k : Nat) (target : Checkpoint), Receives f s → f.payload = be16 target.epoch.toNat →
    s.journal.readiness = .ready → s.engine.state = .idle ∨ s.engine.state = .failed → s.engine.stopping = false →
    s.stack.checkpoints[k]? = some target → target.epoch ≠ 0#16 →
    (∀ j < k, ∀ x, s.stack.checkpoints[j]? = some x → x.epoch ≠ target.epoch) →
    (drainHolds (rollbackEntered k target s) = false →
      exec (.rollback f) s =
        .next { rollbackEntered k target s with
          link := answeredLink f .started (be16 target.epoch.toNat ++ be16 target.distance) s.link }) ∧
      ∀ kept voids : List (Option Record), drainHolds (rollbackEntered k target s) = true →
        s.journal.ring = kept ++ voids → (∀ slot ∈ voids, ∃ x, slot = some x ∧ x.state = .void) →
        (target.distance = voids.length →
          exec (.rollback f) s =
            .next { completes (drawnBack kept voids.length (rollbackEntered k target s)) with
              link := answeredLink f .started (be16 target.epoch.toNat ++ be16 target.distance) s.link }) ∧
          ∀ x pre, voids.length < target.distance → kept.getLast? = some (some x) → x.state = .valid pre →
            exec (.rollback f) s =
              .next { restoreHanded x.line pre (drawnBack kept voids.length (rollbackEntered k target s)) with
                link := answeredLink f .started (be16 target.epoch.toNat ++ be16 target.distance) s.link }

/-- DISCARD with the engine IDLE or FAILED: no checkpoint stays open; the VALID and VOID records of the open epochs, and in
FAILED every one, are freed, and the RESERVED ones become orphans; the head advances; the timer goes OFF; the JFULL waiters
are released; the engine is IDLE; LOSTRB stays (R79, R102 to R104). -/
def Obligations.DiscardEndsEveryCheckpoint : Prop :=
  ∀ (s : State) (f : Frame) (freed kept : List (Option Record)), Receives f s → f.payload = [] →
    s.journal.readiness = .ready → s.engine.state = .idle ∨ s.engine.state = .failed →
    (s.journal.ring.map fun slot =>
        slot.bind fun x =>
          if s.engine.state = .failed ∨ x.epoch ∈ s.stack.checkpoints.map Checkpoint.epoch then
            match x.state with
            | .reserved _ => some { x with state := .reserved true }
            | .valid _ | .void => none
          else some x) = freed ++ kept →
    (∀ slot ∈ freed, slot = none) → kept.head? ≠ some none →
    exec (.discard f) s =
      .next { s with
        stack := { s.stack with checkpoints := [] }
        journal := { s.journal with head := (s.journal.head + freed.length) % 1024, ring := kept }
        timer := { s.timer with state := .off, elapsed := 0, divider := 0 }
        admission := releasedWhere (fun reason _ _ => reason == .jfull) s
        engine := { s.engine with state := .idle }
        link := answeredLink f .done [] s.link }

/-! ## Soft reset -/

/-- SOFT_RESET on a part that holds something: every request in the intake queue and the wait list that is not answering is
answered RESET, with its recorded region index, and no mark stays; the timer is OFF; LOSTRB is set and the engine stopping
with a rollback under way, LOSTRB alone after a failed one; the fetch-response is emptied and E is not flipped (R59, R86,
R170 to R172). That all these answers, those behind the intake head too, count as ready together is the model's choice
(notes/assumptions/17.md). -/
def Obligations.SoftResetQuiesces : Prop :=
  ∀ (s : State) (f : Frame), Receives f s → f.payload = [] →
    s.hport.intake ≠ [] ∨ s.admission.waitList ≠ [] ∨ s.hport.taking ≠ none ∨ s.tracker.hosts ≠ [] ∨
      s.tracker.restore ≠ none →
    exec (.softReset f) s =
      .next (offerNext { s with
        hport :=
          { s.hport with
            intake :=
              s.hport.intake.mapIdx fun place q =>
                if q.answering = none then
                  { q with
                    answering :=
                      some
                        ⟨.failed .reset, if place = 0 then s.admission.held.bind HeldHead.region else none, s.readySeq⟩ }
                else q }
        admission :=
          { s.admission with
            held := none
            waitList := s.admission.waitList.map fun e =>
              { e with
                released := false
                answering := if e.answering = none then some ⟨.failed .reset, e.region, s.readySeq⟩ else e.answering } }
        journal :=
          { s.journal with readiness := if s.journal.readiness = .ready then .ready else .notReady }
        engine :=
          { s.engine with
            lostrb := s.engine.lostrb || s.engine.state != .idle
            stopping := s.engine.state == .drain || s.engine.state == .restore }
        timer := { s.timer with state := .off, elapsed := 0, divider := 0 }
        link := { s.link with fetchResponse := none, quiesce := some f.toggle }
        readySeq := s.readySeq + 1 })

/-- Step 4, in the SOFT_RESET itself when the part holds nothing, or as an event of its own in a quiesce that has come to hold
nothing: every block takes its soft-reset values, LOSTRB is kept, the initialisation begins, E is the inverse of the noted
toggle, and RESETDONE with that toggle and cause 0x01 is both stored responses (R18, R85, R108, R130, R157, R173, R190). The
model's choices in it: the step as an event of its own (notes/assumptions/7.md), a quiet interval that goes on through it
(notes/assumptions/9.md), readySeq 0 (notes/assumptions/16.md). -/
def Obligations.StepFourGivesSoftResetValues : Prop :=
  ∀ (s : State) (c : Instr) (toggle lostrb : Bool), s.porn = true →
    s.hport.intake = [] → s.admission.waitList = [] → s.hport.taking = none → s.tracker.hosts = [] →
    s.tracker.restore = none →
    (∃ f, c = .softReset f ∧ Receives f s ∧ f.payload = [] ∧ f.toggle = toggle ∧
        lostrb = (s.engine.lostrb || s.engine.state != .idle)) ∨
      c = .softResetStep4 ∧ s.link.quiesce = some toggle ∧ lostrb = s.engine.lostrb →
    ∃ t, exec c s = .next t ∧
      t = { State.reset with
        now := s.now
        mport := { presented := none, quietSince := s.mport.quietSince }
        journal := { readiness := .initialising s.now, head := 0, ring := [] }
        engine := { state := .idle, span := none, retry := false, stopping := false, lostrb := lostrb }
        link :=
          { expected := !toggle, repeatResponse := ⟨toggle, .resetDone, [0x01#8]⟩
            fetchResponse := some ⟨toggle, .resetDone, [0x01#8]⟩, quiesce := none, shifted := s.link.shifted }
        choices := t.choices
        pending := s.pending }

end
end

