-- ==== Sys2Proof/Laws/State.lean ====
section
/-!
SUPPORT. For each update of State that changes only named blocks, one lemma for each block it leaves as it was. They are
true by rfl, so that no proof unfolds a record update.
-/

namespace Sys2Proof.Machine

@[simp] theorem setFlag_porn (f : Flag) (s : State) : (setFlag f s).porn = s.porn := rfl
@[simp] theorem setFlag_now (f : Flag) (s : State) : (setFlag f s).now = s.now := rfl
@[simp] theorem setFlag_hport (f : Flag) (s : State) : (setFlag f s).hport = s.hport := rfl
@[simp] theorem setFlag_mport (f : Flag) (s : State) : (setFlag f s).mport = s.mport := rfl
@[simp] theorem setFlag_regions (f : Flag) (s : State) : (setFlag f s).regions = s.regions := rfl
@[simp] theorem setFlag_admission (f : Flag) (s : State) : (setFlag f s).admission = s.admission := rfl
@[simp] theorem setFlag_tracker (f : Flag) (s : State) : (setFlag f s).tracker = s.tracker := rfl
@[simp] theorem setFlag_journal (f : Flag) (s : State) : (setFlag f s).journal = s.journal := rfl
@[simp] theorem setFlag_stack (f : Flag) (s : State) : (setFlag f s).stack = s.stack := rfl
@[simp] theorem setFlag_engine (f : Flag) (s : State) : (setFlag f s).engine = s.engine := rfl
@[simp] theorem setFlag_timer (f : Flag) (s : State) : (setFlag f s).timer = s.timer := rfl
@[simp] theorem setFlag_params (f : Flag) (s : State) : (setFlag f s).params = s.params := rfl
@[simp] theorem setFlag_link (f : Flag) (s : State) : (setFlag f s).link = s.link := rfl
@[simp] theorem setFlag_readySeq (f : Flag) (s : State) : (setFlag f s).readySeq = s.readySeq := rfl
@[simp] theorem setFlag_choices (f : Flag) (s : State) : (setFlag f s).choices = s.choices := rfl
@[simp] theorem setFlag_pending (f : Flag) (s : State) : (setFlag f s).pending = s.pending := rfl

@[simp] theorem release_porn (c : Clearing) (s : State) : (release c s).porn = s.porn := rfl
@[simp] theorem release_now (c : Clearing) (s : State) : (release c s).now = s.now := rfl
@[simp] theorem release_hport (c : Clearing) (s : State) : (release c s).hport = s.hport := rfl
@[simp] theorem release_mport (c : Clearing) (s : State) : (release c s).mport = s.mport := rfl
@[simp] theorem release_regions (c : Clearing) (s : State) : (release c s).regions = s.regions := rfl
@[simp] theorem release_tracker (c : Clearing) (s : State) : (release c s).tracker = s.tracker := rfl
@[simp] theorem release_journal (c : Clearing) (s : State) : (release c s).journal = s.journal := rfl
@[simp] theorem release_stack (c : Clearing) (s : State) : (release c s).stack = s.stack := rfl
@[simp] theorem release_engine (c : Clearing) (s : State) : (release c s).engine = s.engine := rfl
@[simp] theorem release_timer (c : Clearing) (s : State) : (release c s).timer = s.timer := rfl
@[simp] theorem release_events (c : Clearing) (s : State) : (release c s).events = s.events := rfl
@[simp] theorem release_params (c : Clearing) (s : State) : (release c s).params = s.params := rfl
@[simp] theorem release_link (c : Clearing) (s : State) : (release c s).link = s.link := rfl
@[simp] theorem release_readySeq (c : Clearing) (s : State) : (release c s).readySeq = s.readySeq := rfl
@[simp] theorem release_choices (c : Clearing) (s : State) : (release c s).choices = s.choices := rfl
@[simp] theorem release_pending (c : Clearing) (s : State) : (release c s).pending = s.pending := rfl

@[simp] theorem promote_porn (s : State) : (promote s).porn = s.porn := rfl
@[simp] theorem promote_now (s : State) : (promote s).now = s.now := rfl
@[simp] theorem promote_hport (s : State) : (promote s).hport = s.hport := rfl
@[simp] theorem promote_mport (s : State) : (promote s).mport = s.mport := rfl
@[simp] theorem promote_tracker (s : State) : (promote s).tracker = s.tracker := rfl
@[simp] theorem promote_journal (s : State) : (promote s).journal = s.journal := rfl
@[simp] theorem promote_stack (s : State) : (promote s).stack = s.stack := rfl
@[simp] theorem promote_engine (s : State) : (promote s).engine = s.engine := rfl
@[simp] theorem promote_timer (s : State) : (promote s).timer = s.timer := rfl
@[simp] theorem promote_events (s : State) : (promote s).events = s.events := rfl
@[simp] theorem promote_params (s : State) : (promote s).params = s.params := rfl
@[simp] theorem promote_link (s : State) : (promote s).link = s.link := rfl
@[simp] theorem promote_readySeq (s : State) : (promote s).readySeq = s.readySeq := rfl
@[simp] theorem promote_choices (s : State) : (promote s).choices = s.choices := rfl
@[simp] theorem promote_pending (s : State) : (promote s).pending = s.pending := rfl

@[simp] theorem stopTimer_porn (s : State) : (stopTimer s).porn = s.porn := rfl
@[simp] theorem stopTimer_now (s : State) : (stopTimer s).now = s.now := rfl
@[simp] theorem stopTimer_hport (s : State) : (stopTimer s).hport = s.hport := rfl
@[simp] theorem stopTimer_mport (s : State) : (stopTimer s).mport = s.mport := rfl
@[simp] theorem stopTimer_regions (s : State) : (stopTimer s).regions = s.regions := rfl
@[simp] theorem stopTimer_admission (s : State) : (stopTimer s).admission = s.admission := rfl
@[simp] theorem stopTimer_tracker (s : State) : (stopTimer s).tracker = s.tracker := rfl
@[simp] theorem stopTimer_journal (s : State) : (stopTimer s).journal = s.journal := rfl
@[simp] theorem stopTimer_stack (s : State) : (stopTimer s).stack = s.stack := rfl
@[simp] theorem stopTimer_engine (s : State) : (stopTimer s).engine = s.engine := rfl
@[simp] theorem stopTimer_events (s : State) : (stopTimer s).events = s.events := rfl
@[simp] theorem stopTimer_params (s : State) : (stopTimer s).params = s.params := rfl
@[simp] theorem stopTimer_link (s : State) : (stopTimer s).link = s.link := rfl
@[simp] theorem stopTimer_readySeq (s : State) : (stopTimer s).readySeq = s.readySeq := rfl
@[simp] theorem stopTimer_choices (s : State) : (stopTimer s).choices = s.choices := rfl
@[simp] theorem stopTimer_pending (s : State) : (stopTimer s).pending = s.pending := rfl

@[simp] theorem bumpReady_porn (s : State) : (bumpReady s).porn = s.porn := rfl
@[simp] theorem bumpReady_now (s : State) : (bumpReady s).now = s.now := rfl
@[simp] theorem bumpReady_hport (s : State) : (bumpReady s).hport = s.hport := rfl
@[simp] theorem bumpReady_mport (s : State) : (bumpReady s).mport = s.mport := rfl
@[simp] theorem bumpReady_regions (s : State) : (bumpReady s).regions = s.regions := rfl
@[simp] theorem bumpReady_admission (s : State) : (bumpReady s).admission = s.admission := rfl
@[simp] theorem bumpReady_tracker (s : State) : (bumpReady s).tracker = s.tracker := rfl
@[simp] theorem bumpReady_journal (s : State) : (bumpReady s).journal = s.journal := rfl
@[simp] theorem bumpReady_stack (s : State) : (bumpReady s).stack = s.stack := rfl
@[simp] theorem bumpReady_engine (s : State) : (bumpReady s).engine = s.engine := rfl
@[simp] theorem bumpReady_timer (s : State) : (bumpReady s).timer = s.timer := rfl
@[simp] theorem bumpReady_events (s : State) : (bumpReady s).events = s.events := rfl
@[simp] theorem bumpReady_params (s : State) : (bumpReady s).params = s.params := rfl
@[simp] theorem bumpReady_link (s : State) : (bumpReady s).link = s.link := rfl
@[simp] theorem bumpReady_choices (s : State) : (bumpReady s).choices = s.choices := rfl
@[simp] theorem bumpReady_pending (s : State) : (bumpReady s).pending = s.pending := rfl

@[simp] theorem storeFrameErr_porn (s : State) : (storeFrameErr s).porn = s.porn := rfl
@[simp] theorem storeFrameErr_now (s : State) : (storeFrameErr s).now = s.now := rfl
@[simp] theorem storeFrameErr_hport (s : State) : (storeFrameErr s).hport = s.hport := rfl
@[simp] theorem storeFrameErr_mport (s : State) : (storeFrameErr s).mport = s.mport := rfl
@[simp] theorem storeFrameErr_regions (s : State) : (storeFrameErr s).regions = s.regions := rfl
@[simp] theorem storeFrameErr_admission (s : State) : (storeFrameErr s).admission = s.admission := rfl
@[simp] theorem storeFrameErr_tracker (s : State) : (storeFrameErr s).tracker = s.tracker := rfl
@[simp] theorem storeFrameErr_journal (s : State) : (storeFrameErr s).journal = s.journal := rfl
@[simp] theorem storeFrameErr_stack (s : State) : (storeFrameErr s).stack = s.stack := rfl
@[simp] theorem storeFrameErr_engine (s : State) : (storeFrameErr s).engine = s.engine := rfl
@[simp] theorem storeFrameErr_timer (s : State) : (storeFrameErr s).timer = s.timer := rfl
@[simp] theorem storeFrameErr_events (s : State) : (storeFrameErr s).events = s.events := rfl
@[simp] theorem storeFrameErr_params (s : State) : (storeFrameErr s).params = s.params := rfl
@[simp] theorem storeFrameErr_readySeq (s : State) : (storeFrameErr s).readySeq = s.readySeq := rfl
@[simp] theorem storeFrameErr_choices (s : State) : (storeFrameErr s).choices = s.choices := rfl
@[simp] theorem storeFrameErr_pending (s : State) : (storeFrameErr s).pending = s.pending := rfl

@[simp] theorem storeRepeat_porn (s : State) : (storeRepeat s).porn = s.porn := rfl
@[simp] theorem storeRepeat_now (s : State) : (storeRepeat s).now = s.now := rfl
@[simp] theorem storeRepeat_hport (s : State) : (storeRepeat s).hport = s.hport := rfl
@[simp] theorem storeRepeat_mport (s : State) : (storeRepeat s).mport = s.mport := rfl
@[simp] theorem storeRepeat_regions (s : State) : (storeRepeat s).regions = s.regions := rfl
@[simp] theorem storeRepeat_admission (s : State) : (storeRepeat s).admission = s.admission := rfl
@[simp] theorem storeRepeat_tracker (s : State) : (storeRepeat s).tracker = s.tracker := rfl
@[simp] theorem storeRepeat_journal (s : State) : (storeRepeat s).journal = s.journal := rfl
@[simp] theorem storeRepeat_stack (s : State) : (storeRepeat s).stack = s.stack := rfl
@[simp] theorem storeRepeat_engine (s : State) : (storeRepeat s).engine = s.engine := rfl
@[simp] theorem storeRepeat_timer (s : State) : (storeRepeat s).timer = s.timer := rfl
@[simp] theorem storeRepeat_events (s : State) : (storeRepeat s).events = s.events := rfl
@[simp] theorem storeRepeat_params (s : State) : (storeRepeat s).params = s.params := rfl
@[simp] theorem storeRepeat_readySeq (s : State) : (storeRepeat s).readySeq = s.readySeq := rfl
@[simp] theorem storeRepeat_choices (s : State) : (storeRepeat s).choices = s.choices := rfl
@[simp] theorem storeRepeat_pending (s : State) : (storeRepeat s).pending = s.pending := rfl

@[simp] theorem respond_porn (toggle : Bool) (status : Status) (payload : List Byte) (s : State) : (respond toggle status payload s).porn = s.porn := rfl
@[simp] theorem respond_now (toggle : Bool) (status : Status) (payload : List Byte) (s : State) : (respond toggle status payload s).now = s.now := rfl
@[simp] theorem respond_hport (toggle : Bool) (status : Status) (payload : List Byte) (s : State) : (respond toggle status payload s).hport = s.hport := rfl
@[simp] theorem respond_mport (toggle : Bool) (status : Status) (payload : List Byte) (s : State) : (respond toggle status payload s).mport = s.mport := rfl
@[simp] theorem respond_regions (toggle : Bool) (status : Status) (payload : List Byte) (s : State) : (respond toggle status payload s).regions = s.regions := rfl
@[simp] theorem respond_admission (toggle : Bool) (status : Status) (payload : List Byte) (s : State) : (respond toggle status payload s).admission = s.admission := rfl
@[simp] theorem respond_tracker (toggle : Bool) (status : Status) (payload : List Byte) (s : State) : (respond toggle status payload s).tracker = s.tracker := rfl
@[simp] theorem respond_journal (toggle : Bool) (status : Status) (payload : List Byte) (s : State) : (respond toggle status payload s).journal = s.journal := rfl
@[simp] theorem respond_stack (toggle : Bool) (status : Status) (payload : List Byte) (s : State) : (respond toggle status payload s).stack = s.stack := rfl
@[simp] theorem respond_engine (toggle : Bool) (status : Status) (payload : List Byte) (s : State) : (respond toggle status payload s).engine = s.engine := rfl
@[simp] theorem respond_timer (toggle : Bool) (status : Status) (payload : List Byte) (s : State) : (respond toggle status payload s).timer = s.timer := rfl
@[simp] theorem respond_events (toggle : Bool) (status : Status) (payload : List Byte) (s : State) : (respond toggle status payload s).events = s.events := rfl
@[simp] theorem respond_params (toggle : Bool) (status : Status) (payload : List Byte) (s : State) : (respond toggle status payload s).params = s.params := rfl
@[simp] theorem respond_readySeq (toggle : Bool) (status : Status) (payload : List Byte) (s : State) : (respond toggle status payload s).readySeq = s.readySeq := rfl
@[simp] theorem respond_choices (toggle : Bool) (status : Status) (payload : List Byte) (s : State) : (respond toggle status payload s).choices = s.choices := rfl
@[simp] theorem respond_pending (toggle : Bool) (status : Status) (payload : List Byte) (s : State) : (respond toggle status payload s).pending = s.pending := rfl

@[simp] theorem dropPair_porn (p : Pair) (s : State) : (dropPair p s).porn = s.porn := rfl
@[simp] theorem dropPair_now (p : Pair) (s : State) : (dropPair p s).now = s.now := rfl
@[simp] theorem dropPair_mport (p : Pair) (s : State) : (dropPair p s).mport = s.mport := rfl
@[simp] theorem dropPair_regions (p : Pair) (s : State) : (dropPair p s).regions = s.regions := rfl
@[simp] theorem dropPair_admission (p : Pair) (s : State) : (dropPair p s).admission = s.admission := rfl
@[simp] theorem dropPair_tracker (p : Pair) (s : State) : (dropPair p s).tracker = s.tracker := rfl
@[simp] theorem dropPair_journal (p : Pair) (s : State) : (dropPair p s).journal = s.journal := rfl
@[simp] theorem dropPair_stack (p : Pair) (s : State) : (dropPair p s).stack = s.stack := rfl
@[simp] theorem dropPair_engine (p : Pair) (s : State) : (dropPair p s).engine = s.engine := rfl
@[simp] theorem dropPair_timer (p : Pair) (s : State) : (dropPair p s).timer = s.timer := rfl
@[simp] theorem dropPair_events (p : Pair) (s : State) : (dropPair p s).events = s.events := rfl
@[simp] theorem dropPair_params (p : Pair) (s : State) : (dropPair p s).params = s.params := rfl
@[simp] theorem dropPair_link (p : Pair) (s : State) : (dropPair p s).link = s.link := rfl
@[simp] theorem dropPair_readySeq (p : Pair) (s : State) : (dropPair p s).readySeq = s.readySeq := rfl
@[simp] theorem dropPair_choices (p : Pair) (s : State) : (dropPair p s).choices = s.choices := rfl
@[simp] theorem dropPair_pending (p : Pair) (s : State) : (dropPair p s).pending = s.pending := rfl

@[simp] theorem addHost_porn (id : HostId) (kind : EntryKind) (phase : Phase) (r : Request) (region : Option RegionIndex) (s : State) : (addHost id kind phase r region s).porn = s.porn := rfl
@[simp] theorem addHost_now (id : HostId) (kind : EntryKind) (phase : Phase) (r : Request) (region : Option RegionIndex) (s : State) : (addHost id kind phase r region s).now = s.now := rfl
@[simp] theorem addHost_hport (id : HostId) (kind : EntryKind) (phase : Phase) (r : Request) (region : Option RegionIndex) (s : State) : (addHost id kind phase r region s).hport = s.hport := rfl
@[simp] theorem addHost_mport (id : HostId) (kind : EntryKind) (phase : Phase) (r : Request) (region : Option RegionIndex) (s : State) : (addHost id kind phase r region s).mport = s.mport := rfl
@[simp] theorem addHost_regions (id : HostId) (kind : EntryKind) (phase : Phase) (r : Request) (region : Option RegionIndex) (s : State) : (addHost id kind phase r region s).regions = s.regions := rfl
@[simp] theorem addHost_admission (id : HostId) (kind : EntryKind) (phase : Phase) (r : Request) (region : Option RegionIndex) (s : State) : (addHost id kind phase r region s).admission = s.admission := rfl
@[simp] theorem addHost_journal (id : HostId) (kind : EntryKind) (phase : Phase) (r : Request) (region : Option RegionIndex) (s : State) : (addHost id kind phase r region s).journal = s.journal := rfl
@[simp] theorem addHost_stack (id : HostId) (kind : EntryKind) (phase : Phase) (r : Request) (region : Option RegionIndex) (s : State) : (addHost id kind phase r region s).stack = s.stack := rfl
@[simp] theorem addHost_engine (id : HostId) (kind : EntryKind) (phase : Phase) (r : Request) (region : Option RegionIndex) (s : State) : (addHost id kind phase r region s).engine = s.engine := rfl
@[simp] theorem addHost_timer (id : HostId) (kind : EntryKind) (phase : Phase) (r : Request) (region : Option RegionIndex) (s : State) : (addHost id kind phase r region s).timer = s.timer := rfl
@[simp] theorem addHost_events (id : HostId) (kind : EntryKind) (phase : Phase) (r : Request) (region : Option RegionIndex) (s : State) : (addHost id kind phase r region s).events = s.events := rfl
@[simp] theorem addHost_params (id : HostId) (kind : EntryKind) (phase : Phase) (r : Request) (region : Option RegionIndex) (s : State) : (addHost id kind phase r region s).params = s.params := rfl
@[simp] theorem addHost_link (id : HostId) (kind : EntryKind) (phase : Phase) (r : Request) (region : Option RegionIndex) (s : State) : (addHost id kind phase r region s).link = s.link := rfl
@[simp] theorem addHost_readySeq (id : HostId) (kind : EntryKind) (phase : Phase) (r : Request) (region : Option RegionIndex) (s : State) : (addHost id kind phase r region s).readySeq = s.readySeq := rfl
@[simp] theorem addHost_choices (id : HostId) (kind : EntryKind) (phase : Phase) (r : Request) (region : Option RegionIndex) (s : State) : (addHost id kind phase r region s).choices = s.choices := rfl
@[simp] theorem addHost_pending (id : HostId) (kind : EntryKind) (phase : Phase) (r : Request) (region : Option RegionIndex) (s : State) : (addHost id kind phase r region s).pending = s.pending := rfl

@[simp] theorem setHost_porn (e : HostEntry) (s : State) : (setHost e s).porn = s.porn := rfl
@[simp] theorem setHost_now (e : HostEntry) (s : State) : (setHost e s).now = s.now := rfl
@[simp] theorem setHost_hport (e : HostEntry) (s : State) : (setHost e s).hport = s.hport := rfl
@[simp] theorem setHost_mport (e : HostEntry) (s : State) : (setHost e s).mport = s.mport := rfl
@[simp] theorem setHost_regions (e : HostEntry) (s : State) : (setHost e s).regions = s.regions := rfl
@[simp] theorem setHost_admission (e : HostEntry) (s : State) : (setHost e s).admission = s.admission := rfl
@[simp] theorem setHost_journal (e : HostEntry) (s : State) : (setHost e s).journal = s.journal := rfl
@[simp] theorem setHost_stack (e : HostEntry) (s : State) : (setHost e s).stack = s.stack := rfl
@[simp] theorem setHost_engine (e : HostEntry) (s : State) : (setHost e s).engine = s.engine := rfl
@[simp] theorem setHost_timer (e : HostEntry) (s : State) : (setHost e s).timer = s.timer := rfl
@[simp] theorem setHost_events (e : HostEntry) (s : State) : (setHost e s).events = s.events := rfl
@[simp] theorem setHost_params (e : HostEntry) (s : State) : (setHost e s).params = s.params := rfl
@[simp] theorem setHost_link (e : HostEntry) (s : State) : (setHost e s).link = s.link := rfl
@[simp] theorem setHost_readySeq (e : HostEntry) (s : State) : (setHost e s).readySeq = s.readySeq := rfl
@[simp] theorem setHost_choices (e : HostEntry) (s : State) : (setHost e s).choices = s.choices := rfl
@[simp] theorem setHost_pending (e : HostEntry) (s : State) : (setHost e s).pending = s.pending := rfl

@[simp] theorem answerHost_porn (e : HostEntry) (result : Result) (s : State) : (answerHost e result s).porn = s.porn := rfl
@[simp] theorem answerHost_now (e : HostEntry) (result : Result) (s : State) : (answerHost e result s).now = s.now := rfl
@[simp] theorem answerHost_hport (e : HostEntry) (result : Result) (s : State) : (answerHost e result s).hport = s.hport := rfl
@[simp] theorem answerHost_mport (e : HostEntry) (result : Result) (s : State) : (answerHost e result s).mport = s.mport := rfl
@[simp] theorem answerHost_regions (e : HostEntry) (result : Result) (s : State) : (answerHost e result s).regions = s.regions := rfl
@[simp] theorem answerHost_admission (e : HostEntry) (result : Result) (s : State) : (answerHost e result s).admission = s.admission := rfl
@[simp] theorem answerHost_journal (e : HostEntry) (result : Result) (s : State) : (answerHost e result s).journal = s.journal := rfl
@[simp] theorem answerHost_stack (e : HostEntry) (result : Result) (s : State) : (answerHost e result s).stack = s.stack := rfl
@[simp] theorem answerHost_engine (e : HostEntry) (result : Result) (s : State) : (answerHost e result s).engine = s.engine := rfl
@[simp] theorem answerHost_timer (e : HostEntry) (result : Result) (s : State) : (answerHost e result s).timer = s.timer := rfl
@[simp] theorem answerHost_events (e : HostEntry) (result : Result) (s : State) : (answerHost e result s).events = s.events := rfl
@[simp] theorem answerHost_params (e : HostEntry) (result : Result) (s : State) : (answerHost e result s).params = s.params := rfl
@[simp] theorem answerHost_link (e : HostEntry) (result : Result) (s : State) : (answerHost e result s).link = s.link := rfl
@[simp] theorem answerHost_choices (e : HostEntry) (result : Result) (s : State) : (answerHost e result s).choices = s.choices := rfl
@[simp] theorem answerHost_pending (e : HostEntry) (result : Result) (s : State) : (answerHost e result s).pending = s.pending := rfl

@[simp] theorem expire_porn (k : Nat) (s : State) : (expire k s).porn = s.porn := rfl
@[simp] theorem expire_now (k : Nat) (s : State) : (expire k s).now = s.now := rfl
@[simp] theorem expire_hport (k : Nat) (s : State) : (expire k s).hport = s.hport := rfl
@[simp] theorem expire_mport (k : Nat) (s : State) : (expire k s).mport = s.mport := rfl
@[simp] theorem expire_regions (k : Nat) (s : State) : (expire k s).regions = s.regions := rfl
@[simp] theorem expire_tracker (k : Nat) (s : State) : (expire k s).tracker = s.tracker := rfl
@[simp] theorem expire_journal (k : Nat) (s : State) : (expire k s).journal = s.journal := rfl
@[simp] theorem expire_stack (k : Nat) (s : State) : (expire k s).stack = s.stack := rfl
@[simp] theorem expire_engine (k : Nat) (s : State) : (expire k s).engine = s.engine := rfl
@[simp] theorem expire_timer (k : Nat) (s : State) : (expire k s).timer = s.timer := rfl
@[simp] theorem expire_params (k : Nat) (s : State) : (expire k s).params = s.params := rfl
@[simp] theorem expire_link (k : Nat) (s : State) : (expire k s).link = s.link := rfl
@[simp] theorem expire_choices (k : Nat) (s : State) : (expire k s).choices = s.choices := rfl
@[simp] theorem expire_pending (k : Nat) (s : State) : (expire k s).pending = s.pending := rfl

@[simp] theorem failRestore_porn (s : State) : (failRestore s).porn = s.porn := rfl
@[simp] theorem failRestore_now (s : State) : (failRestore s).now = s.now := rfl
@[simp] theorem failRestore_hport (s : State) : (failRestore s).hport = s.hport := rfl
@[simp] theorem failRestore_mport (s : State) : (failRestore s).mport = s.mport := rfl
@[simp] theorem failRestore_regions (s : State) : (failRestore s).regions = s.regions := rfl
@[simp] theorem failRestore_tracker (s : State) : (failRestore s).tracker = s.tracker := rfl
@[simp] theorem failRestore_journal (s : State) : (failRestore s).journal = s.journal := rfl
@[simp] theorem failRestore_stack (s : State) : (failRestore s).stack = s.stack := rfl
@[simp] theorem failRestore_timer (s : State) : (failRestore s).timer = s.timer := rfl
@[simp] theorem failRestore_params (s : State) : (failRestore s).params = s.params := rfl
@[simp] theorem failRestore_link (s : State) : (failRestore s).link = s.link := rfl
@[simp] theorem failRestore_readySeq (s : State) : (failRestore s).readySeq = s.readySeq := rfl
@[simp] theorem failRestore_choices (s : State) : (failRestore s).choices = s.choices := rfl
@[simp] theorem failRestore_pending (s : State) : (failRestore s).pending = s.pending := rfl

@[simp] theorem clearFlags_porn (mask : BitVec 9) (s : State) : (clearFlags mask s).porn = s.porn := rfl
@[simp] theorem clearFlags_now (mask : BitVec 9) (s : State) : (clearFlags mask s).now = s.now := rfl
@[simp] theorem clearFlags_hport (mask : BitVec 9) (s : State) : (clearFlags mask s).hport = s.hport := rfl
@[simp] theorem clearFlags_mport (mask : BitVec 9) (s : State) : (clearFlags mask s).mport = s.mport := rfl
@[simp] theorem clearFlags_regions (mask : BitVec 9) (s : State) : (clearFlags mask s).regions = s.regions := rfl
@[simp] theorem clearFlags_admission (mask : BitVec 9) (s : State) : (clearFlags mask s).admission = s.admission := rfl
@[simp] theorem clearFlags_tracker (mask : BitVec 9) (s : State) : (clearFlags mask s).tracker = s.tracker := rfl
@[simp] theorem clearFlags_journal (mask : BitVec 9) (s : State) : (clearFlags mask s).journal = s.journal := rfl
@[simp] theorem clearFlags_stack (mask : BitVec 9) (s : State) : (clearFlags mask s).stack = s.stack := rfl
@[simp] theorem clearFlags_engine (mask : BitVec 9) (s : State) : (clearFlags mask s).engine = s.engine := rfl
@[simp] theorem clearFlags_timer (mask : BitVec 9) (s : State) : (clearFlags mask s).timer = s.timer := rfl
@[simp] theorem clearFlags_params (mask : BitVec 9) (s : State) : (clearFlags mask s).params = s.params := rfl
@[simp] theorem clearFlags_link (mask : BitVec 9) (s : State) : (clearFlags mask s).link = s.link := rfl
@[simp] theorem clearFlags_readySeq (mask : BitVec 9) (s : State) : (clearFlags mask s).readySeq = s.readySeq := rfl
@[simp] theorem clearFlags_choices (mask : BitVec 9) (s : State) : (clearFlags mask s).choices = s.choices := rfl
@[simp] theorem clearFlags_pending (mask : BitVec 9) (s : State) : (clearFlags mask s).pending = s.pending := rfl

@[simp] theorem editStaged_porn (staged : Vector RegionEntry 12) (s : State) : (editStaged staged s).porn = s.porn := rfl
@[simp] theorem editStaged_now (staged : Vector RegionEntry 12) (s : State) : (editStaged staged s).now = s.now := rfl
@[simp] theorem editStaged_hport (staged : Vector RegionEntry 12) (s : State) : (editStaged staged s).hport = s.hport := rfl
@[simp] theorem editStaged_mport (staged : Vector RegionEntry 12) (s : State) : (editStaged staged s).mport = s.mport := rfl
@[simp] theorem editStaged_admission (staged : Vector RegionEntry 12) (s : State) : (editStaged staged s).admission = s.admission := rfl
@[simp] theorem editStaged_tracker (staged : Vector RegionEntry 12) (s : State) : (editStaged staged s).tracker = s.tracker := rfl
@[simp] theorem editStaged_journal (staged : Vector RegionEntry 12) (s : State) : (editStaged staged s).journal = s.journal := rfl
@[simp] theorem editStaged_stack (staged : Vector RegionEntry 12) (s : State) : (editStaged staged s).stack = s.stack := rfl
@[simp] theorem editStaged_engine (staged : Vector RegionEntry 12) (s : State) : (editStaged staged s).engine = s.engine := rfl
@[simp] theorem editStaged_timer (staged : Vector RegionEntry 12) (s : State) : (editStaged staged s).timer = s.timer := rfl
@[simp] theorem editStaged_events (staged : Vector RegionEntry 12) (s : State) : (editStaged staged s).events = s.events := rfl
@[simp] theorem editStaged_params (staged : Vector RegionEntry 12) (s : State) : (editStaged staged s).params = s.params := rfl
@[simp] theorem editStaged_link (staged : Vector RegionEntry 12) (s : State) : (editStaged staged s).link = s.link := rfl
@[simp] theorem editStaged_readySeq (staged : Vector RegionEntry 12) (s : State) : (editStaged staged s).readySeq = s.readySeq := rfl
@[simp] theorem editStaged_choices (staged : Vector RegionEntry 12) (s : State) : (editStaged staged s).choices = s.choices := rfl
@[simp] theorem editStaged_pending (staged : Vector RegionEntry 12) (s : State) : (editStaged staged s).pending = s.pending := rfl

@[simp] theorem storeDefaultPolicy_porn (v : Nat) (s : State) : (storeDefaultPolicy v s).porn = s.porn := rfl
@[simp] theorem storeDefaultPolicy_now (v : Nat) (s : State) : (storeDefaultPolicy v s).now = s.now := rfl
@[simp] theorem storeDefaultPolicy_hport (v : Nat) (s : State) : (storeDefaultPolicy v s).hport = s.hport := rfl
@[simp] theorem storeDefaultPolicy_mport (v : Nat) (s : State) : (storeDefaultPolicy v s).mport = s.mport := rfl
@[simp] theorem storeDefaultPolicy_regions (v : Nat) (s : State) : (storeDefaultPolicy v s).regions = s.regions := rfl
@[simp] theorem storeDefaultPolicy_tracker (v : Nat) (s : State) : (storeDefaultPolicy v s).tracker = s.tracker := rfl
@[simp] theorem storeDefaultPolicy_journal (v : Nat) (s : State) : (storeDefaultPolicy v s).journal = s.journal := rfl
@[simp] theorem storeDefaultPolicy_stack (v : Nat) (s : State) : (storeDefaultPolicy v s).stack = s.stack := rfl
@[simp] theorem storeDefaultPolicy_engine (v : Nat) (s : State) : (storeDefaultPolicy v s).engine = s.engine := rfl
@[simp] theorem storeDefaultPolicy_timer (v : Nat) (s : State) : (storeDefaultPolicy v s).timer = s.timer := rfl
@[simp] theorem storeDefaultPolicy_events (v : Nat) (s : State) : (storeDefaultPolicy v s).events = s.events := rfl
@[simp] theorem storeDefaultPolicy_link (v : Nat) (s : State) : (storeDefaultPolicy v s).link = s.link := rfl
@[simp] theorem storeDefaultPolicy_readySeq (v : Nat) (s : State) : (storeDefaultPolicy v s).readySeq = s.readySeq := rfl
@[simp] theorem storeDefaultPolicy_choices (v : Nat) (s : State) : (storeDefaultPolicy v s).choices = s.choices := rfl
@[simp] theorem storeDefaultPolicy_pending (v : Nat) (s : State) : (storeDefaultPolicy v s).pending = s.pending := rfl

@[simp] theorem storeJhighLevel_porn (v : Nat) (s : State) : (storeJhighLevel v s).porn = s.porn := rfl
@[simp] theorem storeJhighLevel_now (v : Nat) (s : State) : (storeJhighLevel v s).now = s.now := rfl
@[simp] theorem storeJhighLevel_hport (v : Nat) (s : State) : (storeJhighLevel v s).hport = s.hport := rfl
@[simp] theorem storeJhighLevel_mport (v : Nat) (s : State) : (storeJhighLevel v s).mport = s.mport := rfl
@[simp] theorem storeJhighLevel_regions (v : Nat) (s : State) : (storeJhighLevel v s).regions = s.regions := rfl
@[simp] theorem storeJhighLevel_admission (v : Nat) (s : State) : (storeJhighLevel v s).admission = s.admission := rfl
@[simp] theorem storeJhighLevel_tracker (v : Nat) (s : State) : (storeJhighLevel v s).tracker = s.tracker := rfl
@[simp] theorem storeJhighLevel_journal (v : Nat) (s : State) : (storeJhighLevel v s).journal = s.journal := rfl
@[simp] theorem storeJhighLevel_stack (v : Nat) (s : State) : (storeJhighLevel v s).stack = s.stack := rfl
@[simp] theorem storeJhighLevel_engine (v : Nat) (s : State) : (storeJhighLevel v s).engine = s.engine := rfl
@[simp] theorem storeJhighLevel_timer (v : Nat) (s : State) : (storeJhighLevel v s).timer = s.timer := rfl
@[simp] theorem storeJhighLevel_events (v : Nat) (s : State) : (storeJhighLevel v s).events = s.events := rfl
@[simp] theorem storeJhighLevel_link (v : Nat) (s : State) : (storeJhighLevel v s).link = s.link := rfl
@[simp] theorem storeJhighLevel_readySeq (v : Nat) (s : State) : (storeJhighLevel v s).readySeq = s.readySeq := rfl
@[simp] theorem storeJhighLevel_choices (v : Nat) (s : State) : (storeJhighLevel v s).choices = s.choices := rfl
@[simp] theorem storeJhighLevel_pending (v : Nat) (s : State) : (storeJhighLevel v s).pending = s.pending := rfl

@[simp] theorem storeWaitLimit_porn (v : Nat) (s : State) : (storeWaitLimit v s).porn = s.porn := rfl
@[simp] theorem storeWaitLimit_now (v : Nat) (s : State) : (storeWaitLimit v s).now = s.now := rfl
@[simp] theorem storeWaitLimit_hport (v : Nat) (s : State) : (storeWaitLimit v s).hport = s.hport := rfl
@[simp] theorem storeWaitLimit_mport (v : Nat) (s : State) : (storeWaitLimit v s).mport = s.mport := rfl
@[simp] theorem storeWaitLimit_regions (v : Nat) (s : State) : (storeWaitLimit v s).regions = s.regions := rfl
@[simp] theorem storeWaitLimit_admission (v : Nat) (s : State) : (storeWaitLimit v s).admission = s.admission := rfl
@[simp] theorem storeWaitLimit_tracker (v : Nat) (s : State) : (storeWaitLimit v s).tracker = s.tracker := rfl
@[simp] theorem storeWaitLimit_journal (v : Nat) (s : State) : (storeWaitLimit v s).journal = s.journal := rfl
@[simp] theorem storeWaitLimit_stack (v : Nat) (s : State) : (storeWaitLimit v s).stack = s.stack := rfl
@[simp] theorem storeWaitLimit_engine (v : Nat) (s : State) : (storeWaitLimit v s).engine = s.engine := rfl
@[simp] theorem storeWaitLimit_timer (v : Nat) (s : State) : (storeWaitLimit v s).timer = s.timer := rfl
@[simp] theorem storeWaitLimit_events (v : Nat) (s : State) : (storeWaitLimit v s).events = s.events := rfl
@[simp] theorem storeWaitLimit_link (v : Nat) (s : State) : (storeWaitLimit v s).link = s.link := rfl
@[simp] theorem storeWaitLimit_readySeq (v : Nat) (s : State) : (storeWaitLimit v s).readySeq = s.readySeq := rfl
@[simp] theorem storeWaitLimit_choices (v : Nat) (s : State) : (storeWaitLimit v s).choices = s.choices := rfl
@[simp] theorem storeWaitLimit_pending (v : Nat) (s : State) : (storeWaitLimit v s).pending = s.pending := rfl

@[simp] theorem storeDlPeriod_porn (v : Nat) (s : State) : (storeDlPeriod v s).porn = s.porn := rfl
@[simp] theorem storeDlPeriod_now (v : Nat) (s : State) : (storeDlPeriod v s).now = s.now := rfl
@[simp] theorem storeDlPeriod_hport (v : Nat) (s : State) : (storeDlPeriod v s).hport = s.hport := rfl
@[simp] theorem storeDlPeriod_mport (v : Nat) (s : State) : (storeDlPeriod v s).mport = s.mport := rfl
@[simp] theorem storeDlPeriod_regions (v : Nat) (s : State) : (storeDlPeriod v s).regions = s.regions := rfl
@[simp] theorem storeDlPeriod_admission (v : Nat) (s : State) : (storeDlPeriod v s).admission = s.admission := rfl
@[simp] theorem storeDlPeriod_tracker (v : Nat) (s : State) : (storeDlPeriod v s).tracker = s.tracker := rfl
@[simp] theorem storeDlPeriod_journal (v : Nat) (s : State) : (storeDlPeriod v s).journal = s.journal := rfl
@[simp] theorem storeDlPeriod_stack (v : Nat) (s : State) : (storeDlPeriod v s).stack = s.stack := rfl
@[simp] theorem storeDlPeriod_engine (v : Nat) (s : State) : (storeDlPeriod v s).engine = s.engine := rfl
@[simp] theorem storeDlPeriod_timer (v : Nat) (s : State) : (storeDlPeriod v s).timer = s.timer := rfl
@[simp] theorem storeDlPeriod_events (v : Nat) (s : State) : (storeDlPeriod v s).events = s.events := rfl
@[simp] theorem storeDlPeriod_link (v : Nat) (s : State) : (storeDlPeriod v s).link = s.link := rfl
@[simp] theorem storeDlPeriod_readySeq (v : Nat) (s : State) : (storeDlPeriod v s).readySeq = s.readySeq := rfl
@[simp] theorem storeDlPeriod_choices (v : Nat) (s : State) : (storeDlPeriod v s).choices = s.choices := rfl
@[simp] theorem storeDlPeriod_pending (v : Nat) (s : State) : (storeDlPeriod v s).pending = s.pending := rfl

@[simp] theorem storeDlTarget_porn (v : Nat) (s : State) : (storeDlTarget v s).porn = s.porn := rfl
@[simp] theorem storeDlTarget_now (v : Nat) (s : State) : (storeDlTarget v s).now = s.now := rfl
@[simp] theorem storeDlTarget_hport (v : Nat) (s : State) : (storeDlTarget v s).hport = s.hport := rfl
@[simp] theorem storeDlTarget_mport (v : Nat) (s : State) : (storeDlTarget v s).mport = s.mport := rfl
@[simp] theorem storeDlTarget_regions (v : Nat) (s : State) : (storeDlTarget v s).regions = s.regions := rfl
@[simp] theorem storeDlTarget_admission (v : Nat) (s : State) : (storeDlTarget v s).admission = s.admission := rfl
@[simp] theorem storeDlTarget_tracker (v : Nat) (s : State) : (storeDlTarget v s).tracker = s.tracker := rfl
@[simp] theorem storeDlTarget_journal (v : Nat) (s : State) : (storeDlTarget v s).journal = s.journal := rfl
@[simp] theorem storeDlTarget_stack (v : Nat) (s : State) : (storeDlTarget v s).stack = s.stack := rfl
@[simp] theorem storeDlTarget_engine (v : Nat) (s : State) : (storeDlTarget v s).engine = s.engine := rfl
@[simp] theorem storeDlTarget_timer (v : Nat) (s : State) : (storeDlTarget v s).timer = s.timer := rfl
@[simp] theorem storeDlTarget_events (v : Nat) (s : State) : (storeDlTarget v s).events = s.events := rfl
@[simp] theorem storeDlTarget_link (v : Nat) (s : State) : (storeDlTarget v s).link = s.link := rfl
@[simp] theorem storeDlTarget_readySeq (v : Nat) (s : State) : (storeDlTarget v s).readySeq = s.readySeq := rfl
@[simp] theorem storeDlTarget_choices (v : Nat) (s : State) : (storeDlTarget v s).choices = s.choices := rfl
@[simp] theorem storeDlTarget_pending (v : Nat) (s : State) : (storeDlTarget v s).pending = s.pending := rfl

@[simp] theorem storeEventEnable_porn (v : Nat) (s : State) : (storeEventEnable v s).porn = s.porn := rfl
@[simp] theorem storeEventEnable_now (v : Nat) (s : State) : (storeEventEnable v s).now = s.now := rfl
@[simp] theorem storeEventEnable_hport (v : Nat) (s : State) : (storeEventEnable v s).hport = s.hport := rfl
@[simp] theorem storeEventEnable_mport (v : Nat) (s : State) : (storeEventEnable v s).mport = s.mport := rfl
@[simp] theorem storeEventEnable_regions (v : Nat) (s : State) : (storeEventEnable v s).regions = s.regions := rfl
@[simp] theorem storeEventEnable_admission (v : Nat) (s : State) : (storeEventEnable v s).admission = s.admission := rfl
@[simp] theorem storeEventEnable_tracker (v : Nat) (s : State) : (storeEventEnable v s).tracker = s.tracker := rfl
@[simp] theorem storeEventEnable_journal (v : Nat) (s : State) : (storeEventEnable v s).journal = s.journal := rfl
@[simp] theorem storeEventEnable_stack (v : Nat) (s : State) : (storeEventEnable v s).stack = s.stack := rfl
@[simp] theorem storeEventEnable_engine (v : Nat) (s : State) : (storeEventEnable v s).engine = s.engine := rfl
@[simp] theorem storeEventEnable_timer (v : Nat) (s : State) : (storeEventEnable v s).timer = s.timer := rfl
@[simp] theorem storeEventEnable_events (v : Nat) (s : State) : (storeEventEnable v s).events = s.events := rfl
@[simp] theorem storeEventEnable_link (v : Nat) (s : State) : (storeEventEnable v s).link = s.link := rfl
@[simp] theorem storeEventEnable_readySeq (v : Nat) (s : State) : (storeEventEnable v s).readySeq = s.readySeq := rfl
@[simp] theorem storeEventEnable_choices (v : Nat) (s : State) : (storeEventEnable v s).choices = s.choices := rfl
@[simp] theorem storeEventEnable_pending (v : Nat) (s : State) : (storeEventEnable v s).pending = s.pending := rfl

@[simp] theorem pushCheckpoint_porn (s : State) : (pushCheckpoint s).porn = s.porn := rfl
@[simp] theorem pushCheckpoint_now (s : State) : (pushCheckpoint s).now = s.now := rfl
@[simp] theorem pushCheckpoint_hport (s : State) : (pushCheckpoint s).hport = s.hport := rfl
@[simp] theorem pushCheckpoint_mport (s : State) : (pushCheckpoint s).mport = s.mport := rfl
@[simp] theorem pushCheckpoint_regions (s : State) : (pushCheckpoint s).regions = s.regions := rfl
@[simp] theorem pushCheckpoint_admission (s : State) : (pushCheckpoint s).admission = s.admission := rfl
@[simp] theorem pushCheckpoint_tracker (s : State) : (pushCheckpoint s).tracker = s.tracker := rfl
@[simp] theorem pushCheckpoint_journal (s : State) : (pushCheckpoint s).journal = s.journal := rfl
@[simp] theorem pushCheckpoint_engine (s : State) : (pushCheckpoint s).engine = s.engine := rfl
@[simp] theorem pushCheckpoint_timer (s : State) : (pushCheckpoint s).timer = s.timer := rfl
@[simp] theorem pushCheckpoint_events (s : State) : (pushCheckpoint s).events = s.events := rfl
@[simp] theorem pushCheckpoint_params (s : State) : (pushCheckpoint s).params = s.params := rfl
@[simp] theorem pushCheckpoint_link (s : State) : (pushCheckpoint s).link = s.link := rfl
@[simp] theorem pushCheckpoint_readySeq (s : State) : (pushCheckpoint s).readySeq = s.readySeq := rfl
@[simp] theorem pushCheckpoint_choices (s : State) : (pushCheckpoint s).choices = s.choices := rfl
@[simp] theorem pushCheckpoint_pending (s : State) : (pushCheckpoint s).pending = s.pending := rfl

@[simp] theorem tick_porn (s : State) : (tick s).porn = s.porn := rfl
@[simp] theorem tick_hport (s : State) : (tick s).hport = s.hport := rfl
@[simp] theorem tick_mport (s : State) : (tick s).mport = s.mport := rfl
@[simp] theorem tick_regions (s : State) : (tick s).regions = s.regions := rfl
@[simp] theorem tick_admission (s : State) : (tick s).admission = s.admission := rfl
@[simp] theorem tick_tracker (s : State) : (tick s).tracker = s.tracker := rfl
@[simp] theorem tick_journal (s : State) : (tick s).journal = s.journal := rfl
@[simp] theorem tick_stack (s : State) : (tick s).stack = s.stack := rfl
@[simp] theorem tick_engine (s : State) : (tick s).engine = s.engine := rfl
@[simp] theorem tick_events (s : State) : (tick s).events = s.events := rfl
@[simp] theorem tick_params (s : State) : (tick s).params = s.params := rfl
@[simp] theorem tick_link (s : State) : (tick s).link = s.link := rfl
@[simp] theorem tick_readySeq (s : State) : (tick s).readySeq = s.readySeq := rfl
@[simp] theorem tick_choices (s : State) : (tick s).choices = s.choices := rfl
@[simp] theorem tick_pending (s : State) : (tick s).pending = s.pending := rfl

end Sys2Proof.Machine
end

