-- ==== Sys2Proof/Laws/Frames.lean ====
section
/-!
SUPPORT. The frames of the shared operations that branch: for each, one lemma for each block it leaves as it was.
-/

namespace Sys2Proof.Machine

@[simp] theorem captureResponse_porn (epoch : Epoch) (r : Request) (a : Ready) (s : State) : (captureResponse epoch r a s).porn = s.porn := by
  unfold captureResponse
  repeat' split
  all_goals simp
@[simp] theorem captureResponse_now (epoch : Epoch) (r : Request) (a : Ready) (s : State) : (captureResponse epoch r a s).now = s.now := by
  unfold captureResponse
  repeat' split
  all_goals simp
@[simp] theorem captureResponse_hport (epoch : Epoch) (r : Request) (a : Ready) (s : State) : (captureResponse epoch r a s).hport = s.hport := by
  unfold captureResponse
  repeat' split
  all_goals simp
@[simp] theorem captureResponse_mport (epoch : Epoch) (r : Request) (a : Ready) (s : State) : (captureResponse epoch r a s).mport = s.mport := by
  unfold captureResponse
  repeat' split
  all_goals simp
@[simp] theorem captureResponse_regions (epoch : Epoch) (r : Request) (a : Ready) (s : State) : (captureResponse epoch r a s).regions = s.regions := by
  unfold captureResponse
  repeat' split
  all_goals simp
@[simp] theorem captureResponse_admission (epoch : Epoch) (r : Request) (a : Ready) (s : State) : (captureResponse epoch r a s).admission = s.admission := by
  unfold captureResponse
  repeat' split
  all_goals simp
@[simp] theorem captureResponse_tracker (epoch : Epoch) (r : Request) (a : Ready) (s : State) : (captureResponse epoch r a s).tracker = s.tracker := by
  unfold captureResponse
  repeat' split
  all_goals simp
@[simp] theorem captureResponse_journal (epoch : Epoch) (r : Request) (a : Ready) (s : State) : (captureResponse epoch r a s).journal = s.journal := by
  unfold captureResponse
  repeat' split
  all_goals simp
@[simp] theorem captureResponse_stack (epoch : Epoch) (r : Request) (a : Ready) (s : State) : (captureResponse epoch r a s).stack = s.stack := by
  unfold captureResponse
  repeat' split
  all_goals simp
@[simp] theorem captureResponse_engine (epoch : Epoch) (r : Request) (a : Ready) (s : State) : (captureResponse epoch r a s).engine = s.engine := by
  unfold captureResponse
  repeat' split
  all_goals simp
@[simp] theorem captureResponse_timer (epoch : Epoch) (r : Request) (a : Ready) (s : State) : (captureResponse epoch r a s).timer = s.timer := by
  unfold captureResponse
  repeat' split
  all_goals simp
@[simp] theorem captureResponse_params (epoch : Epoch) (r : Request) (a : Ready) (s : State) : (captureResponse epoch r a s).params = s.params := by
  unfold captureResponse
  repeat' split
  all_goals simp
@[simp] theorem captureResponse_link (epoch : Epoch) (r : Request) (a : Ready) (s : State) : (captureResponse epoch r a s).link = s.link := by
  unfold captureResponse
  repeat' split
  all_goals simp
@[simp] theorem captureResponse_readySeq (epoch : Epoch) (r : Request) (a : Ready) (s : State) : (captureResponse epoch r a s).readySeq = s.readySeq := by
  unfold captureResponse
  repeat' split
  all_goals simp
@[simp] theorem captureResponse_choices (epoch : Epoch) (r : Request) (a : Ready) (s : State) : (captureResponse epoch r a s).choices = s.choices := by
  unfold captureResponse
  repeat' split
  all_goals simp
@[simp] theorem captureResponse_pending (epoch : Epoch) (r : Request) (a : Ready) (s : State) : (captureResponse epoch r a s).pending = s.pending := by
  unfold captureResponse
  repeat' split
  all_goals simp

@[simp] theorem leaveWaitList_porn (k : Nat) (s : State) : (leaveWaitList k s).porn = s.porn := by unfold leaveWaitList; split <;> simp
@[simp] theorem leaveWaitList_now (k : Nat) (s : State) : (leaveWaitList k s).now = s.now := by unfold leaveWaitList; split <;> simp
@[simp] theorem leaveWaitList_hport (k : Nat) (s : State) : (leaveWaitList k s).hport = s.hport := by unfold leaveWaitList; split <;> simp
@[simp] theorem leaveWaitList_mport (k : Nat) (s : State) : (leaveWaitList k s).mport = s.mport := by unfold leaveWaitList; split <;> simp
@[simp] theorem leaveWaitList_regions (k : Nat) (s : State) : (leaveWaitList k s).regions = s.regions := by unfold leaveWaitList; split <;> simp
@[simp] theorem leaveWaitList_tracker (k : Nat) (s : State) : (leaveWaitList k s).tracker = s.tracker := by unfold leaveWaitList; split <;> simp
@[simp] theorem leaveWaitList_journal (k : Nat) (s : State) : (leaveWaitList k s).journal = s.journal := by unfold leaveWaitList; split <;> simp
@[simp] theorem leaveWaitList_stack (k : Nat) (s : State) : (leaveWaitList k s).stack = s.stack := by unfold leaveWaitList; split <;> simp
@[simp] theorem leaveWaitList_engine (k : Nat) (s : State) : (leaveWaitList k s).engine = s.engine := by unfold leaveWaitList; split <;> simp
@[simp] theorem leaveWaitList_timer (k : Nat) (s : State) : (leaveWaitList k s).timer = s.timer := by unfold leaveWaitList; split <;> simp
@[simp] theorem leaveWaitList_events (k : Nat) (s : State) : (leaveWaitList k s).events = s.events := by unfold leaveWaitList; split <;> simp
@[simp] theorem leaveWaitList_params (k : Nat) (s : State) : (leaveWaitList k s).params = s.params := by unfold leaveWaitList; split <;> simp
@[simp] theorem leaveWaitList_link (k : Nat) (s : State) : (leaveWaitList k s).link = s.link := by unfold leaveWaitList; split <;> simp
@[simp] theorem leaveWaitList_readySeq (k : Nat) (s : State) : (leaveWaitList k s).readySeq = s.readySeq := by unfold leaveWaitList; split <;> simp
@[simp] theorem leaveWaitList_choices (k : Nat) (s : State) : (leaveWaitList k s).choices = s.choices := by unfold leaveWaitList; split <;> simp
@[simp] theorem leaveWaitList_pending (k : Nat) (s : State) : (leaveWaitList k s).pending = s.pending := by unfold leaveWaitList; split <;> simp

@[simp] theorem reserveRecord_porn (r : Request) (i : RegionIndex) (s : State) : (reserveRecord r i s).porn = s.porn := by unfold reserveRecord; dsimp only; split <;> simp
@[simp] theorem reserveRecord_now (r : Request) (i : RegionIndex) (s : State) : (reserveRecord r i s).now = s.now := by unfold reserveRecord; dsimp only; split <;> simp
@[simp] theorem reserveRecord_hport (r : Request) (i : RegionIndex) (s : State) : (reserveRecord r i s).hport = s.hport := by unfold reserveRecord; dsimp only; split <;> simp
@[simp] theorem reserveRecord_mport (r : Request) (i : RegionIndex) (s : State) : (reserveRecord r i s).mport = s.mport := by unfold reserveRecord; dsimp only; split <;> simp
@[simp] theorem reserveRecord_regions (r : Request) (i : RegionIndex) (s : State) : (reserveRecord r i s).regions = s.regions := by unfold reserveRecord; dsimp only; split <;> simp
@[simp] theorem reserveRecord_admission (r : Request) (i : RegionIndex) (s : State) : (reserveRecord r i s).admission = s.admission := by unfold reserveRecord; dsimp only; split <;> simp
@[simp] theorem reserveRecord_tracker (r : Request) (i : RegionIndex) (s : State) : (reserveRecord r i s).tracker = s.tracker := by unfold reserveRecord; dsimp only; split <;> simp
@[simp] theorem reserveRecord_engine (r : Request) (i : RegionIndex) (s : State) : (reserveRecord r i s).engine = s.engine := by unfold reserveRecord; dsimp only; split <;> simp
@[simp] theorem reserveRecord_timer (r : Request) (i : RegionIndex) (s : State) : (reserveRecord r i s).timer = s.timer := by unfold reserveRecord; dsimp only; split <;> simp
@[simp] theorem reserveRecord_params (r : Request) (i : RegionIndex) (s : State) : (reserveRecord r i s).params = s.params := by unfold reserveRecord; dsimp only; split <;> simp
@[simp] theorem reserveRecord_link (r : Request) (i : RegionIndex) (s : State) : (reserveRecord r i s).link = s.link := by unfold reserveRecord; dsimp only; split <;> simp
@[simp] theorem reserveRecord_readySeq (r : Request) (i : RegionIndex) (s : State) : (reserveRecord r i s).readySeq = s.readySeq := by unfold reserveRecord; dsimp only; split <;> simp
@[simp] theorem reserveRecord_choices (r : Request) (i : RegionIndex) (s : State) : (reserveRecord r i s).choices = s.choices := by unfold reserveRecord; dsimp only; split <;> simp
@[simp] theorem reserveRecord_pending (r : Request) (i : RegionIndex) (s : State) : (reserveRecord r i s).pending = s.pending := by unfold reserveRecord; dsimp only; split <;> simp

@[simp] theorem signalFall_porn (n : Nat) (s : State) : (signalFall n s).porn = s.porn := by unfold signalFall; split <;> simp
@[simp] theorem signalFall_now (n : Nat) (s : State) : (signalFall n s).now = s.now := by unfold signalFall; split <;> simp
@[simp] theorem signalFall_hport (n : Nat) (s : State) : (signalFall n s).hport = s.hport := by unfold signalFall; split <;> simp
@[simp] theorem signalFall_mport (n : Nat) (s : State) : (signalFall n s).mport = s.mport := by unfold signalFall; split <;> simp
@[simp] theorem signalFall_regions (n : Nat) (s : State) : (signalFall n s).regions = s.regions := by unfold signalFall; split <;> simp
@[simp] theorem signalFall_tracker (n : Nat) (s : State) : (signalFall n s).tracker = s.tracker := by unfold signalFall; split <;> simp
@[simp] theorem signalFall_journal (n : Nat) (s : State) : (signalFall n s).journal = s.journal := by unfold signalFall; split <;> simp
@[simp] theorem signalFall_stack (n : Nat) (s : State) : (signalFall n s).stack = s.stack := by unfold signalFall; split <;> simp
@[simp] theorem signalFall_engine (n : Nat) (s : State) : (signalFall n s).engine = s.engine := by unfold signalFall; split <;> simp
@[simp] theorem signalFall_timer (n : Nat) (s : State) : (signalFall n s).timer = s.timer := by unfold signalFall; split <;> simp
@[simp] theorem signalFall_events (n : Nat) (s : State) : (signalFall n s).events = s.events := by unfold signalFall; split <;> simp
@[simp] theorem signalFall_params (n : Nat) (s : State) : (signalFall n s).params = s.params := by unfold signalFall; split <;> simp
@[simp] theorem signalFall_link (n : Nat) (s : State) : (signalFall n s).link = s.link := by unfold signalFall; split <;> simp
@[simp] theorem signalFall_readySeq (n : Nat) (s : State) : (signalFall n s).readySeq = s.readySeq := by unfold signalFall; split <;> simp
@[simp] theorem signalFall_choices (n : Nat) (s : State) : (signalFall n s).choices = s.choices := by unfold signalFall; split <;> simp
@[simp] theorem signalFall_pending (n : Nat) (s : State) : (signalFall n s).pending = s.pending := by unfold signalFall; split <;> simp

@[simp] theorem settleRecord_porn (p : Nat) (a : MemAnswer) (s : State) : (settleRecord p a s).porn = s.porn := by
  unfold settleRecord
  split
  · rfl
  · dsimp only
    split <;> simp
@[simp] theorem settleRecord_now (p : Nat) (a : MemAnswer) (s : State) : (settleRecord p a s).now = s.now := by
  unfold settleRecord
  split
  · rfl
  · dsimp only
    split <;> simp
@[simp] theorem settleRecord_hport (p : Nat) (a : MemAnswer) (s : State) : (settleRecord p a s).hport = s.hport := by
  unfold settleRecord
  split
  · rfl
  · dsimp only
    split <;> simp
@[simp] theorem settleRecord_mport (p : Nat) (a : MemAnswer) (s : State) : (settleRecord p a s).mport = s.mport := by
  unfold settleRecord
  split
  · rfl
  · dsimp only
    split <;> simp
@[simp] theorem settleRecord_regions (p : Nat) (a : MemAnswer) (s : State) : (settleRecord p a s).regions = s.regions := by
  unfold settleRecord
  split
  · rfl
  · dsimp only
    split <;> simp
@[simp] theorem settleRecord_tracker (p : Nat) (a : MemAnswer) (s : State) : (settleRecord p a s).tracker = s.tracker := by
  unfold settleRecord
  split
  · rfl
  · dsimp only
    split <;> simp
@[simp] theorem settleRecord_stack (p : Nat) (a : MemAnswer) (s : State) : (settleRecord p a s).stack = s.stack := by
  unfold settleRecord
  split
  · rfl
  · dsimp only
    split <;> simp
@[simp] theorem settleRecord_engine (p : Nat) (a : MemAnswer) (s : State) : (settleRecord p a s).engine = s.engine := by
  unfold settleRecord
  split
  · rfl
  · dsimp only
    split <;> simp
@[simp] theorem settleRecord_timer (p : Nat) (a : MemAnswer) (s : State) : (settleRecord p a s).timer = s.timer := by
  unfold settleRecord
  split
  · rfl
  · dsimp only
    split <;> simp
@[simp] theorem settleRecord_events (p : Nat) (a : MemAnswer) (s : State) : (settleRecord p a s).events = s.events := by
  unfold settleRecord
  split
  · rfl
  · dsimp only
    split <;> simp
@[simp] theorem settleRecord_params (p : Nat) (a : MemAnswer) (s : State) : (settleRecord p a s).params = s.params := by
  unfold settleRecord
  split
  · rfl
  · dsimp only
    split <;> simp
@[simp] theorem settleRecord_link (p : Nat) (a : MemAnswer) (s : State) : (settleRecord p a s).link = s.link := by
  unfold settleRecord
  split
  · rfl
  · dsimp only
    split <;> simp
@[simp] theorem settleRecord_readySeq (p : Nat) (a : MemAnswer) (s : State) : (settleRecord p a s).readySeq = s.readySeq := by
  unfold settleRecord
  split
  · rfl
  · dsimp only
    split <;> simp
@[simp] theorem settleRecord_choices (p : Nat) (a : MemAnswer) (s : State) : (settleRecord p a s).choices = s.choices := by
  unfold settleRecord
  split
  · rfl
  · dsimp only
    split <;> simp
@[simp] theorem settleRecord_pending (p : Nat) (a : MemAnswer) (s : State) : (settleRecord p a s).pending = s.pending := by
  unfold settleRecord
  split
  · rfl
  · dsimp only
    split <;> simp

@[simp] theorem abandonEpochs_porn (es : List Epoch) (s : State) : (abandonEpochs es s).porn = s.porn := by simp [abandonEpochs]
@[simp] theorem abandonEpochs_now (es : List Epoch) (s : State) : (abandonEpochs es s).now = s.now := by simp [abandonEpochs]
@[simp] theorem abandonEpochs_hport (es : List Epoch) (s : State) : (abandonEpochs es s).hport = s.hport := by simp [abandonEpochs]
@[simp] theorem abandonEpochs_mport (es : List Epoch) (s : State) : (abandonEpochs es s).mport = s.mport := by simp [abandonEpochs]
@[simp] theorem abandonEpochs_regions (es : List Epoch) (s : State) : (abandonEpochs es s).regions = s.regions := by simp [abandonEpochs]
@[simp] theorem abandonEpochs_tracker (es : List Epoch) (s : State) : (abandonEpochs es s).tracker = s.tracker := by simp [abandonEpochs]
@[simp] theorem abandonEpochs_stack (es : List Epoch) (s : State) : (abandonEpochs es s).stack = s.stack := by simp [abandonEpochs]
@[simp] theorem abandonEpochs_engine (es : List Epoch) (s : State) : (abandonEpochs es s).engine = s.engine := by simp [abandonEpochs]
@[simp] theorem abandonEpochs_timer (es : List Epoch) (s : State) : (abandonEpochs es s).timer = s.timer := by simp [abandonEpochs]
@[simp] theorem abandonEpochs_events (es : List Epoch) (s : State) : (abandonEpochs es s).events = s.events := by simp [abandonEpochs]
@[simp] theorem abandonEpochs_params (es : List Epoch) (s : State) : (abandonEpochs es s).params = s.params := by simp [abandonEpochs]
@[simp] theorem abandonEpochs_link (es : List Epoch) (s : State) : (abandonEpochs es s).link = s.link := by simp [abandonEpochs]
@[simp] theorem abandonEpochs_readySeq (es : List Epoch) (s : State) : (abandonEpochs es s).readySeq = s.readySeq := by simp [abandonEpochs]
@[simp] theorem abandonEpochs_choices (es : List Epoch) (s : State) : (abandonEpochs es s).choices = s.choices := by simp [abandonEpochs]
@[simp] theorem abandonEpochs_pending (es : List Epoch) (s : State) : (abandonEpochs es s).pending = s.pending := by simp [abandonEpochs]

@[simp] theorem freeAtTail_porn (k : Nat) (s : State) : (freeAtTail k s).porn = s.porn := by simp [freeAtTail]
@[simp] theorem freeAtTail_now (k : Nat) (s : State) : (freeAtTail k s).now = s.now := by simp [freeAtTail]
@[simp] theorem freeAtTail_hport (k : Nat) (s : State) : (freeAtTail k s).hport = s.hport := by simp [freeAtTail]
@[simp] theorem freeAtTail_mport (k : Nat) (s : State) : (freeAtTail k s).mport = s.mport := by simp [freeAtTail]
@[simp] theorem freeAtTail_regions (k : Nat) (s : State) : (freeAtTail k s).regions = s.regions := by simp [freeAtTail]
@[simp] theorem freeAtTail_tracker (k : Nat) (s : State) : (freeAtTail k s).tracker = s.tracker := by simp [freeAtTail]
@[simp] theorem freeAtTail_engine (k : Nat) (s : State) : (freeAtTail k s).engine = s.engine := by simp [freeAtTail]
@[simp] theorem freeAtTail_timer (k : Nat) (s : State) : (freeAtTail k s).timer = s.timer := by simp [freeAtTail]
@[simp] theorem freeAtTail_events (k : Nat) (s : State) : (freeAtTail k s).events = s.events := by simp [freeAtTail]
@[simp] theorem freeAtTail_params (k : Nat) (s : State) : (freeAtTail k s).params = s.params := by simp [freeAtTail]
@[simp] theorem freeAtTail_link (k : Nat) (s : State) : (freeAtTail k s).link = s.link := by simp [freeAtTail]
@[simp] theorem freeAtTail_readySeq (k : Nat) (s : State) : (freeAtTail k s).readySeq = s.readySeq := by simp [freeAtTail]
@[simp] theorem freeAtTail_choices (k : Nat) (s : State) : (freeAtTail k s).choices = s.choices := by simp [freeAtTail]
@[simp] theorem freeAtTail_pending (k : Nat) (s : State) : (freeAtTail k s).pending = s.pending := by simp [freeAtTail]

@[simp] theorem restartTimer_porn (s : State) : (restartTimer s).porn = s.porn := by unfold restartTimer; split <;> simp
@[simp] theorem restartTimer_now (s : State) : (restartTimer s).now = s.now := by unfold restartTimer; split <;> simp
@[simp] theorem restartTimer_hport (s : State) : (restartTimer s).hport = s.hport := by unfold restartTimer; split <;> simp
@[simp] theorem restartTimer_mport (s : State) : (restartTimer s).mport = s.mport := by unfold restartTimer; split <;> simp
@[simp] theorem restartTimer_regions (s : State) : (restartTimer s).regions = s.regions := by unfold restartTimer; split <;> simp
@[simp] theorem restartTimer_admission (s : State) : (restartTimer s).admission = s.admission := by unfold restartTimer; split <;> simp
@[simp] theorem restartTimer_tracker (s : State) : (restartTimer s).tracker = s.tracker := by unfold restartTimer; split <;> simp
@[simp] theorem restartTimer_journal (s : State) : (restartTimer s).journal = s.journal := by unfold restartTimer; split <;> simp
@[simp] theorem restartTimer_stack (s : State) : (restartTimer s).stack = s.stack := by unfold restartTimer; split <;> simp
@[simp] theorem restartTimer_engine (s : State) : (restartTimer s).engine = s.engine := by unfold restartTimer; split <;> simp
@[simp] theorem restartTimer_events (s : State) : (restartTimer s).events = s.events := by unfold restartTimer; split <;> simp
@[simp] theorem restartTimer_params (s : State) : (restartTimer s).params = s.params := by unfold restartTimer; split <;> simp
@[simp] theorem restartTimer_link (s : State) : (restartTimer s).link = s.link := by unfold restartTimer; split <;> simp
@[simp] theorem restartTimer_readySeq (s : State) : (restartTimer s).readySeq = s.readySeq := by unfold restartTimer; split <;> simp
@[simp] theorem restartTimer_choices (s : State) : (restartTimer s).choices = s.choices := by unfold restartTimer; split <;> simp
@[simp] theorem restartTimer_pending (s : State) : (restartTimer s).pending = s.pending := by unfold restartTimer; split <;> simp

@[simp] theorem suspendTimer_porn (s : State) : (suspendTimer s).porn = s.porn := by unfold suspendTimer; split <;> simp
@[simp] theorem suspendTimer_now (s : State) : (suspendTimer s).now = s.now := by unfold suspendTimer; split <;> simp
@[simp] theorem suspendTimer_hport (s : State) : (suspendTimer s).hport = s.hport := by unfold suspendTimer; split <;> simp
@[simp] theorem suspendTimer_mport (s : State) : (suspendTimer s).mport = s.mport := by unfold suspendTimer; split <;> simp
@[simp] theorem suspendTimer_regions (s : State) : (suspendTimer s).regions = s.regions := by unfold suspendTimer; split <;> simp
@[simp] theorem suspendTimer_admission (s : State) : (suspendTimer s).admission = s.admission := by unfold suspendTimer; split <;> simp
@[simp] theorem suspendTimer_tracker (s : State) : (suspendTimer s).tracker = s.tracker := by unfold suspendTimer; split <;> simp
@[simp] theorem suspendTimer_journal (s : State) : (suspendTimer s).journal = s.journal := by unfold suspendTimer; split <;> simp
@[simp] theorem suspendTimer_stack (s : State) : (suspendTimer s).stack = s.stack := by unfold suspendTimer; split <;> simp
@[simp] theorem suspendTimer_engine (s : State) : (suspendTimer s).engine = s.engine := by unfold suspendTimer; split <;> simp
@[simp] theorem suspendTimer_events (s : State) : (suspendTimer s).events = s.events := by unfold suspendTimer; split <;> simp
@[simp] theorem suspendTimer_params (s : State) : (suspendTimer s).params = s.params := by unfold suspendTimer; split <;> simp
@[simp] theorem suspendTimer_link (s : State) : (suspendTimer s).link = s.link := by unfold suspendTimer; split <;> simp
@[simp] theorem suspendTimer_readySeq (s : State) : (suspendTimer s).readySeq = s.readySeq := by unfold suspendTimer; split <;> simp
@[simp] theorem suspendTimer_choices (s : State) : (suspendTimer s).choices = s.choices := by unfold suspendTimer; split <;> simp
@[simp] theorem suspendTimer_pending (s : State) : (suspendTimer s).pending = s.pending := by unfold suspendTimer; split <;> simp

@[simp] theorem completeRestore_porn (s : State) : (completeRestore s).porn = s.porn := by simp [completeRestore]
@[simp] theorem completeRestore_now (s : State) : (completeRestore s).now = s.now := by simp [completeRestore]
@[simp] theorem completeRestore_hport (s : State) : (completeRestore s).hport = s.hport := by simp [completeRestore]
@[simp] theorem completeRestore_mport (s : State) : (completeRestore s).mport = s.mport := by simp [completeRestore]
@[simp] theorem completeRestore_regions (s : State) : (completeRestore s).regions = s.regions := by simp [completeRestore]
@[simp] theorem completeRestore_tracker (s : State) : (completeRestore s).tracker = s.tracker := by simp [completeRestore]
@[simp] theorem completeRestore_journal (s : State) : (completeRestore s).journal = s.journal := by simp [completeRestore]
@[simp] theorem completeRestore_stack (s : State) : (completeRestore s).stack = s.stack := by simp [completeRestore]
@[simp] theorem completeRestore_params (s : State) : (completeRestore s).params = s.params := by simp [completeRestore]
@[simp] theorem completeRestore_link (s : State) : (completeRestore s).link = s.link := by simp [completeRestore]
@[simp] theorem completeRestore_readySeq (s : State) : (completeRestore s).readySeq = s.readySeq := by simp [completeRestore]
@[simp] theorem completeRestore_choices (s : State) : (completeRestore s).choices = s.choices := by simp [completeRestore]
@[simp] theorem completeRestore_pending (s : State) : (completeRestore s).pending = s.pending := by simp [completeRestore]

@[simp] theorem handRestore_porn (s : State) : (handRestore s).porn = s.porn := by
  unfold handRestore
  repeat' split
  all_goals simp
@[simp] theorem handRestore_now (s : State) : (handRestore s).now = s.now := by
  unfold handRestore
  repeat' split
  all_goals simp
@[simp] theorem handRestore_hport (s : State) : (handRestore s).hport = s.hport := by
  unfold handRestore
  repeat' split
  all_goals simp
@[simp] theorem handRestore_mport (s : State) : (handRestore s).mport = s.mport := by
  unfold handRestore
  repeat' split
  all_goals simp
@[simp] theorem handRestore_regions (s : State) : (handRestore s).regions = s.regions := by
  unfold handRestore
  repeat' split
  all_goals simp
@[simp] theorem handRestore_admission (s : State) : (handRestore s).admission = s.admission := by
  unfold handRestore
  repeat' split
  all_goals simp
@[simp] theorem handRestore_journal (s : State) : (handRestore s).journal = s.journal := by
  unfold handRestore
  repeat' split
  all_goals simp
@[simp] theorem handRestore_stack (s : State) : (handRestore s).stack = s.stack := by
  unfold handRestore
  repeat' split
  all_goals simp
@[simp] theorem handRestore_engine (s : State) : (handRestore s).engine = s.engine := by
  unfold handRestore
  repeat' split
  all_goals simp
@[simp] theorem handRestore_timer (s : State) : (handRestore s).timer = s.timer := by
  unfold handRestore
  repeat' split
  all_goals simp
@[simp] theorem handRestore_events (s : State) : (handRestore s).events = s.events := by
  unfold handRestore
  repeat' split
  all_goals simp
@[simp] theorem handRestore_params (s : State) : (handRestore s).params = s.params := by
  unfold handRestore
  repeat' split
  all_goals simp
@[simp] theorem handRestore_link (s : State) : (handRestore s).link = s.link := by
  unfold handRestore
  repeat' split
  all_goals simp
@[simp] theorem handRestore_readySeq (s : State) : (handRestore s).readySeq = s.readySeq := by
  unfold handRestore
  repeat' split
  all_goals simp
@[simp] theorem handRestore_choices (s : State) : (handRestore s).choices = s.choices := by
  unfold handRestore
  repeat' split
  all_goals simp
@[simp] theorem handRestore_pending (s : State) : (handRestore s).pending = s.pending := by
  unfold handRestore
  repeat' split
  all_goals simp

@[simp] theorem continueRestore_porn (s : State) : (continueRestore s).porn = s.porn := by
  unfold continueRestore
  split
  · rfl
  · dsimp only
    split <;> simp
@[simp] theorem continueRestore_now (s : State) : (continueRestore s).now = s.now := by
  unfold continueRestore
  split
  · rfl
  · dsimp only
    split <;> simp
@[simp] theorem continueRestore_hport (s : State) : (continueRestore s).hport = s.hport := by
  unfold continueRestore
  split
  · rfl
  · dsimp only
    split <;> simp
@[simp] theorem continueRestore_mport (s : State) : (continueRestore s).mport = s.mport := by
  unfold continueRestore
  split
  · rfl
  · dsimp only
    split <;> simp
@[simp] theorem continueRestore_regions (s : State) : (continueRestore s).regions = s.regions := by
  unfold continueRestore
  split
  · rfl
  · dsimp only
    split <;> simp
@[simp] theorem continueRestore_params (s : State) : (continueRestore s).params = s.params := by
  unfold continueRestore
  split
  · rfl
  · dsimp only
    split <;> simp
@[simp] theorem continueRestore_link (s : State) : (continueRestore s).link = s.link := by
  unfold continueRestore
  split
  · rfl
  · dsimp only
    split <;> simp
@[simp] theorem continueRestore_readySeq (s : State) : (continueRestore s).readySeq = s.readySeq := by
  unfold continueRestore
  split
  · rfl
  · dsimp only
    split <;> simp
@[simp] theorem continueRestore_choices (s : State) : (continueRestore s).choices = s.choices := by
  unfold continueRestore
  split
  · rfl
  · dsimp only
    split <;> simp
@[simp] theorem continueRestore_pending (s : State) : (continueRestore s).pending = s.pending := by
  unfold continueRestore
  split
  · rfl
  · dsimp only
    split <;> simp

@[simp] theorem drainTest_porn (s : State) : (drainTest s).porn = s.porn := by unfold drainTest; split <;> simp
@[simp] theorem drainTest_now (s : State) : (drainTest s).now = s.now := by unfold drainTest; split <;> simp
@[simp] theorem drainTest_hport (s : State) : (drainTest s).hport = s.hport := by unfold drainTest; split <;> simp
@[simp] theorem drainTest_mport (s : State) : (drainTest s).mport = s.mport := by unfold drainTest; split <;> simp
@[simp] theorem drainTest_regions (s : State) : (drainTest s).regions = s.regions := by unfold drainTest; split <;> simp
@[simp] theorem drainTest_params (s : State) : (drainTest s).params = s.params := by unfold drainTest; split <;> simp
@[simp] theorem drainTest_link (s : State) : (drainTest s).link = s.link := by unfold drainTest; split <;> simp
@[simp] theorem drainTest_readySeq (s : State) : (drainTest s).readySeq = s.readySeq := by unfold drainTest; split <;> simp
@[simp] theorem drainTest_choices (s : State) : (drainTest s).choices = s.choices := by unfold drainTest; split <;> simp
@[simp] theorem drainTest_pending (s : State) : (drainTest s).pending = s.pending := by unfold drainTest; split <;> simp

@[simp] theorem acceptRollback_porn (k : Nat) (s : State) : (acceptRollback k s).porn = s.porn := by unfold acceptRollback; split <;> simp
@[simp] theorem acceptRollback_now (k : Nat) (s : State) : (acceptRollback k s).now = s.now := by unfold acceptRollback; split <;> simp
@[simp] theorem acceptRollback_hport (k : Nat) (s : State) : (acceptRollback k s).hport = s.hport := by unfold acceptRollback; split <;> simp
@[simp] theorem acceptRollback_mport (k : Nat) (s : State) : (acceptRollback k s).mport = s.mport := by unfold acceptRollback; split <;> simp
@[simp] theorem acceptRollback_regions (k : Nat) (s : State) : (acceptRollback k s).regions = s.regions := by unfold acceptRollback; split <;> simp
@[simp] theorem acceptRollback_params (k : Nat) (s : State) : (acceptRollback k s).params = s.params := by unfold acceptRollback; split <;> simp
@[simp] theorem acceptRollback_link (k : Nat) (s : State) : (acceptRollback k s).link = s.link := by unfold acceptRollback; split <;> simp
@[simp] theorem acceptRollback_readySeq (k : Nat) (s : State) : (acceptRollback k s).readySeq = s.readySeq := by unfold acceptRollback; split <;> simp
@[simp] theorem acceptRollback_choices (k : Nat) (s : State) : (acceptRollback k s).choices = s.choices := by unfold acceptRollback; split <;> simp
@[simp] theorem acceptRollback_pending (k : Nat) (s : State) : (acceptRollback k s).pending = s.pending := by unfold acceptRollback; split <;> simp

@[simp] theorem offerNext_porn (s : State) : (offerNext s).porn = s.porn := by
  unfold offerNext
  repeat' split
  all_goals simp
@[simp] theorem offerNext_now (s : State) : (offerNext s).now = s.now := by
  unfold offerNext
  repeat' split
  all_goals simp
@[simp] theorem offerNext_mport (s : State) : (offerNext s).mport = s.mport := by
  unfold offerNext
  repeat' split
  all_goals simp
@[simp] theorem offerNext_regions (s : State) : (offerNext s).regions = s.regions := by
  unfold offerNext
  repeat' split
  all_goals simp
@[simp] theorem offerNext_admission (s : State) : (offerNext s).admission = s.admission := by
  unfold offerNext
  repeat' split
  all_goals simp
@[simp] theorem offerNext_tracker (s : State) : (offerNext s).tracker = s.tracker := by
  unfold offerNext
  repeat' split
  all_goals simp
@[simp] theorem offerNext_journal (s : State) : (offerNext s).journal = s.journal := by
  unfold offerNext
  repeat' split
  all_goals simp
@[simp] theorem offerNext_stack (s : State) : (offerNext s).stack = s.stack := by
  unfold offerNext
  repeat' split
  all_goals simp
@[simp] theorem offerNext_engine (s : State) : (offerNext s).engine = s.engine := by
  unfold offerNext
  repeat' split
  all_goals simp
@[simp] theorem offerNext_timer (s : State) : (offerNext s).timer = s.timer := by
  unfold offerNext
  repeat' split
  all_goals simp
@[simp] theorem offerNext_events (s : State) : (offerNext s).events = s.events := by
  unfold offerNext
  repeat' split
  all_goals simp
@[simp] theorem offerNext_params (s : State) : (offerNext s).params = s.params := by
  unfold offerNext
  repeat' split
  all_goals simp
@[simp] theorem offerNext_link (s : State) : (offerNext s).link = s.link := by
  unfold offerNext
  repeat' split
  all_goals simp
@[simp] theorem offerNext_readySeq (s : State) : (offerNext s).readySeq = s.readySeq := by
  unfold offerNext
  repeat' split
  all_goals simp
@[simp] theorem offerNext_pending (s : State) : (offerNext s).pending = s.pending := by
  unfold offerNext
  repeat' split
  all_goals simp

@[simp] theorem settleQuiesce_porn (s : State) : (settleQuiesce s).porn = s.porn := by
  unfold settleQuiesce
  repeat' split
  all_goals simp [softResetValues]
@[simp] theorem settleQuiesce_now (s : State) : (settleQuiesce s).now = s.now := by
  unfold settleQuiesce
  repeat' split
  all_goals simp [softResetValues]
@[simp] theorem settleQuiesce_choices (s : State) : (settleQuiesce s).choices = s.choices := by
  unfold settleQuiesce
  repeat' split
  all_goals simp [softResetValues]
@[simp] theorem settleQuiesce_pending (s : State) : (settleQuiesce s).pending = s.pending := by
  unfold settleQuiesce
  repeat' split
  all_goals simp [softResetValues]

@[simp] theorem retireHost_porn (id : HostId) (r : Request) (s : State) : (retireHost id r s).porn = s.porn := by simp [retireHost]
@[simp] theorem retireHost_now (id : HostId) (r : Request) (s : State) : (retireHost id r s).now = s.now := by simp [retireHost]
@[simp] theorem retireHost_hport (id : HostId) (r : Request) (s : State) : (retireHost id r s).hport = s.hport := by simp [retireHost]
@[simp] theorem retireHost_mport (id : HostId) (r : Request) (s : State) : (retireHost id r s).mport = s.mport := by simp [retireHost]
@[simp] theorem retireHost_regions (id : HostId) (r : Request) (s : State) : (retireHost id r s).regions = s.regions := by simp [retireHost]
@[simp] theorem retireHost_params (id : HostId) (r : Request) (s : State) : (retireHost id r s).params = s.params := by simp [retireHost]
@[simp] theorem retireHost_link (id : HostId) (r : Request) (s : State) : (retireHost id r s).link = s.link := by simp [retireHost]
@[simp] theorem retireHost_readySeq (id : HostId) (r : Request) (s : State) : (retireHost id r s).readySeq = s.readySeq := by simp [retireHost]
@[simp] theorem retireHost_choices (id : HostId) (r : Request) (s : State) : (retireHost id r s).choices = s.choices := by simp [retireHost]
@[simp] theorem retireHost_pending (id : HostId) (r : Request) (s : State) : (retireHost id r s).pending = s.pending := by simp [retireHost]

@[simp] theorem giveUp_porn (h : Holder) (r : Request) (s : State) : (giveUp h r s).porn = s.porn := by cases h <;> simp [giveUp]
@[simp] theorem giveUp_now (h : Holder) (r : Request) (s : State) : (giveUp h r s).now = s.now := by cases h <;> simp [giveUp]
@[simp] theorem giveUp_mport (h : Holder) (r : Request) (s : State) : (giveUp h r s).mport = s.mport := by cases h <;> simp [giveUp]
@[simp] theorem giveUp_regions (h : Holder) (r : Request) (s : State) : (giveUp h r s).regions = s.regions := by cases h <;> simp [giveUp]
@[simp] theorem giveUp_params (h : Holder) (r : Request) (s : State) : (giveUp h r s).params = s.params := by cases h <;> simp [giveUp]
@[simp] theorem giveUp_link (h : Holder) (r : Request) (s : State) : (giveUp h r s).link = s.link := by cases h <;> simp [giveUp]
@[simp] theorem giveUp_readySeq (h : Holder) (r : Request) (s : State) : (giveUp h r s).readySeq = s.readySeq := by cases h <;> simp [giveUp]
@[simp] theorem giveUp_choices (h : Holder) (r : Request) (s : State) : (giveUp h r s).choices = s.choices := by cases h <;> simp [giveUp]
@[simp] theorem giveUp_pending (h : Holder) (r : Request) (s : State) : (giveUp h r s).pending = s.pending := by cases h <;> simp [giveUp]

@[simp] theorem unstall_porn (h : Holder) (s : State) : (unstall h s).porn = s.porn := by unfold unstall; split <;> simp
@[simp] theorem unstall_now (h : Holder) (s : State) : (unstall h s).now = s.now := by unfold unstall; split <;> simp
@[simp] theorem unstall_hport (h : Holder) (s : State) : (unstall h s).hport = s.hport := by unfold unstall; split <;> simp
@[simp] theorem unstall_mport (h : Holder) (s : State) : (unstall h s).mport = s.mport := by unfold unstall; split <;> simp
@[simp] theorem unstall_regions (h : Holder) (s : State) : (unstall h s).regions = s.regions := by unfold unstall; split <;> simp
@[simp] theorem unstall_tracker (h : Holder) (s : State) : (unstall h s).tracker = s.tracker := by unfold unstall; split <;> simp
@[simp] theorem unstall_journal (h : Holder) (s : State) : (unstall h s).journal = s.journal := by unfold unstall; split <;> simp
@[simp] theorem unstall_stack (h : Holder) (s : State) : (unstall h s).stack = s.stack := by unfold unstall; split <;> simp
@[simp] theorem unstall_engine (h : Holder) (s : State) : (unstall h s).engine = s.engine := by unfold unstall; split <;> simp
@[simp] theorem unstall_timer (h : Holder) (s : State) : (unstall h s).timer = s.timer := by unfold unstall; split <;> simp
@[simp] theorem unstall_events (h : Holder) (s : State) : (unstall h s).events = s.events := by unfold unstall; split <;> simp
@[simp] theorem unstall_params (h : Holder) (s : State) : (unstall h s).params = s.params := by unfold unstall; split <;> simp
@[simp] theorem unstall_link (h : Holder) (s : State) : (unstall h s).link = s.link := by unfold unstall; split <;> simp
@[simp] theorem unstall_readySeq (h : Holder) (s : State) : (unstall h s).readySeq = s.readySeq := by unfold unstall; split <;> simp
@[simp] theorem unstall_choices (h : Holder) (s : State) : (unstall h s).choices = s.choices := by unfold unstall; split <;> simp
@[simp] theorem unstall_pending (h : Holder) (s : State) : (unstall h s).pending = s.pending := by unfold unstall; split <;> simp

@[simp] theorem takeRequest_porn (r : Request) (s : State) : (takeRequest r s).porn = s.porn := by unfold takeRequest; split <;> simp
@[simp] theorem takeRequest_now (r : Request) (s : State) : (takeRequest r s).now = s.now := by unfold takeRequest; split <;> simp
@[simp] theorem takeRequest_mport (r : Request) (s : State) : (takeRequest r s).mport = s.mport := by unfold takeRequest; split <;> simp
@[simp] theorem takeRequest_regions (r : Request) (s : State) : (takeRequest r s).regions = s.regions := by unfold takeRequest; split <;> simp
@[simp] theorem takeRequest_admission (r : Request) (s : State) : (takeRequest r s).admission = s.admission := by unfold takeRequest; split <;> simp
@[simp] theorem takeRequest_tracker (r : Request) (s : State) : (takeRequest r s).tracker = s.tracker := by unfold takeRequest; split <;> simp
@[simp] theorem takeRequest_journal (r : Request) (s : State) : (takeRequest r s).journal = s.journal := by unfold takeRequest; split <;> simp
@[simp] theorem takeRequest_stack (r : Request) (s : State) : (takeRequest r s).stack = s.stack := by unfold takeRequest; split <;> simp
@[simp] theorem takeRequest_engine (r : Request) (s : State) : (takeRequest r s).engine = s.engine := by unfold takeRequest; split <;> simp
@[simp] theorem takeRequest_timer (r : Request) (s : State) : (takeRequest r s).timer = s.timer := by unfold takeRequest; split <;> simp
@[simp] theorem takeRequest_events (r : Request) (s : State) : (takeRequest r s).events = s.events := by unfold takeRequest; split <;> simp
@[simp] theorem takeRequest_params (r : Request) (s : State) : (takeRequest r s).params = s.params := by unfold takeRequest; split <;> simp
@[simp] theorem takeRequest_link (r : Request) (s : State) : (takeRequest r s).link = s.link := by unfold takeRequest; split <;> simp
@[simp] theorem takeRequest_pending (r : Request) (s : State) : (takeRequest r s).pending = s.pending := by unfold takeRequest; split <;> simp

@[simp] theorem noteFull_porn (v : Verdict) (s : State) : (noteFull v s).porn = s.porn := by unfold noteFull; split <;> simp
@[simp] theorem noteFull_now (v : Verdict) (s : State) : (noteFull v s).now = s.now := by unfold noteFull; split <;> simp
@[simp] theorem noteFull_hport (v : Verdict) (s : State) : (noteFull v s).hport = s.hport := by unfold noteFull; split <;> simp
@[simp] theorem noteFull_mport (v : Verdict) (s : State) : (noteFull v s).mport = s.mport := by unfold noteFull; split <;> simp
@[simp] theorem noteFull_regions (v : Verdict) (s : State) : (noteFull v s).regions = s.regions := by unfold noteFull; split <;> simp
@[simp] theorem noteFull_admission (v : Verdict) (s : State) : (noteFull v s).admission = s.admission := by unfold noteFull; split <;> simp
@[simp] theorem noteFull_tracker (v : Verdict) (s : State) : (noteFull v s).tracker = s.tracker := by unfold noteFull; split <;> simp
@[simp] theorem noteFull_journal (v : Verdict) (s : State) : (noteFull v s).journal = s.journal := by unfold noteFull; split <;> simp
@[simp] theorem noteFull_stack (v : Verdict) (s : State) : (noteFull v s).stack = s.stack := by unfold noteFull; split <;> simp
@[simp] theorem noteFull_engine (v : Verdict) (s : State) : (noteFull v s).engine = s.engine := by unfold noteFull; split <;> simp
@[simp] theorem noteFull_timer (v : Verdict) (s : State) : (noteFull v s).timer = s.timer := by unfold noteFull; split <;> simp
@[simp] theorem noteFull_params (v : Verdict) (s : State) : (noteFull v s).params = s.params := by unfold noteFull; split <;> simp
@[simp] theorem noteFull_link (v : Verdict) (s : State) : (noteFull v s).link = s.link := by unfold noteFull; split <;> simp
@[simp] theorem noteFull_readySeq (v : Verdict) (s : State) : (noteFull v s).readySeq = s.readySeq := by unfold noteFull; split <;> simp
@[simp] theorem noteFull_choices (v : Verdict) (s : State) : (noteFull v s).choices = s.choices := by unfold noteFull; split <;> simp
@[simp] theorem noteFull_pending (v : Verdict) (s : State) : (noteFull v s).pending = s.pending := by unfold noteFull; split <;> simp

@[simp] theorem dispatch_porn (id : HostId) (region : Option RegionIndex) (journaled : Bool) (r : Request) (s : State) : (dispatch id region journaled r s).porn = s.porn := by unfold dispatch; split <;> simp
@[simp] theorem dispatch_now (id : HostId) (region : Option RegionIndex) (journaled : Bool) (r : Request) (s : State) : (dispatch id region journaled r s).now = s.now := by unfold dispatch; split <;> simp
@[simp] theorem dispatch_hport (id : HostId) (region : Option RegionIndex) (journaled : Bool) (r : Request) (s : State) : (dispatch id region journaled r s).hport = s.hport := by unfold dispatch; split <;> simp
@[simp] theorem dispatch_mport (id : HostId) (region : Option RegionIndex) (journaled : Bool) (r : Request) (s : State) : (dispatch id region journaled r s).mport = s.mport := by unfold dispatch; split <;> simp
@[simp] theorem dispatch_regions (id : HostId) (region : Option RegionIndex) (journaled : Bool) (r : Request) (s : State) : (dispatch id region journaled r s).regions = s.regions := by unfold dispatch; split <;> simp
@[simp] theorem dispatch_admission (id : HostId) (region : Option RegionIndex) (journaled : Bool) (r : Request) (s : State) : (dispatch id region journaled r s).admission = s.admission := by unfold dispatch; split <;> simp
@[simp] theorem dispatch_engine (id : HostId) (region : Option RegionIndex) (journaled : Bool) (r : Request) (s : State) : (dispatch id region journaled r s).engine = s.engine := by unfold dispatch; split <;> simp
@[simp] theorem dispatch_timer (id : HostId) (region : Option RegionIndex) (journaled : Bool) (r : Request) (s : State) : (dispatch id region journaled r s).timer = s.timer := by unfold dispatch; split <;> simp
@[simp] theorem dispatch_params (id : HostId) (region : Option RegionIndex) (journaled : Bool) (r : Request) (s : State) : (dispatch id region journaled r s).params = s.params := by unfold dispatch; split <;> simp
@[simp] theorem dispatch_link (id : HostId) (region : Option RegionIndex) (journaled : Bool) (r : Request) (s : State) : (dispatch id region journaled r s).link = s.link := by unfold dispatch; split <;> simp
@[simp] theorem dispatch_readySeq (id : HostId) (region : Option RegionIndex) (journaled : Bool) (r : Request) (s : State) : (dispatch id region journaled r s).readySeq = s.readySeq := by unfold dispatch; split <;> simp
@[simp] theorem dispatch_choices (id : HostId) (region : Option RegionIndex) (journaled : Bool) (r : Request) (s : State) : (dispatch id region journaled r s).choices = s.choices := by unfold dispatch; split <;> simp
@[simp] theorem dispatch_pending (id : HostId) (region : Option RegionIndex) (journaled : Bool) (r : Request) (s : State) : (dispatch id region journaled r s).pending = s.pending := by unfold dispatch; split <;> simp

@[simp] theorem applyToWaiting_porn (k : Nat) (e : WaitEntry) (v : Verdict) (s : State) : (applyToWaiting k e v s).porn = s.porn := by cases v <;> simp [applyToWaiting]
@[simp] theorem applyToWaiting_now (k : Nat) (e : WaitEntry) (v : Verdict) (s : State) : (applyToWaiting k e v s).now = s.now := by cases v <;> simp [applyToWaiting]
@[simp] theorem applyToWaiting_hport (k : Nat) (e : WaitEntry) (v : Verdict) (s : State) : (applyToWaiting k e v s).hport = s.hport := by cases v <;> simp [applyToWaiting]
@[simp] theorem applyToWaiting_mport (k : Nat) (e : WaitEntry) (v : Verdict) (s : State) : (applyToWaiting k e v s).mport = s.mport := by cases v <;> simp [applyToWaiting]
@[simp] theorem applyToWaiting_regions (k : Nat) (e : WaitEntry) (v : Verdict) (s : State) : (applyToWaiting k e v s).regions = s.regions := by cases v <;> simp [applyToWaiting]
@[simp] theorem applyToWaiting_engine (k : Nat) (e : WaitEntry) (v : Verdict) (s : State) : (applyToWaiting k e v s).engine = s.engine := by cases v <;> simp [applyToWaiting]
@[simp] theorem applyToWaiting_timer (k : Nat) (e : WaitEntry) (v : Verdict) (s : State) : (applyToWaiting k e v s).timer = s.timer := by cases v <;> simp [applyToWaiting]
@[simp] theorem applyToWaiting_params (k : Nat) (e : WaitEntry) (v : Verdict) (s : State) : (applyToWaiting k e v s).params = s.params := by cases v <;> simp [applyToWaiting]
@[simp] theorem applyToWaiting_link (k : Nat) (e : WaitEntry) (v : Verdict) (s : State) : (applyToWaiting k e v s).link = s.link := by cases v <;> simp [applyToWaiting]
@[simp] theorem applyToWaiting_choices (k : Nat) (e : WaitEntry) (v : Verdict) (s : State) : (applyToWaiting k e v s).choices = s.choices := by cases v <;> simp [applyToWaiting]
@[simp] theorem applyToWaiting_pending (k : Nat) (e : WaitEntry) (v : Verdict) (s : State) : (applyToWaiting k e v s).pending = s.pending := by cases v <;> simp [applyToWaiting]

@[simp] theorem applyToHead_porn (r : Request) (rest : List IntakeEntry) (v : Verdict) (s : State) : (applyToHead r rest v s).porn = s.porn := by
  unfold applyToHead
  split
  · simp
  · split <;> simp
  · simp
@[simp] theorem applyToHead_now (r : Request) (rest : List IntakeEntry) (v : Verdict) (s : State) : (applyToHead r rest v s).now = s.now := by
  unfold applyToHead
  split
  · simp
  · split <;> simp
  · simp
@[simp] theorem applyToHead_mport (r : Request) (rest : List IntakeEntry) (v : Verdict) (s : State) : (applyToHead r rest v s).mport = s.mport := by
  unfold applyToHead
  split
  · simp
  · split <;> simp
  · simp
@[simp] theorem applyToHead_regions (r : Request) (rest : List IntakeEntry) (v : Verdict) (s : State) : (applyToHead r rest v s).regions = s.regions := by
  unfold applyToHead
  split
  · simp
  · split <;> simp
  · simp
@[simp] theorem applyToHead_engine (r : Request) (rest : List IntakeEntry) (v : Verdict) (s : State) : (applyToHead r rest v s).engine = s.engine := by
  unfold applyToHead
  split
  · simp
  · split <;> simp
  · simp
@[simp] theorem applyToHead_timer (r : Request) (rest : List IntakeEntry) (v : Verdict) (s : State) : (applyToHead r rest v s).timer = s.timer := by
  unfold applyToHead
  split
  · simp
  · split <;> simp
  · simp
@[simp] theorem applyToHead_params (r : Request) (rest : List IntakeEntry) (v : Verdict) (s : State) : (applyToHead r rest v s).params = s.params := by
  unfold applyToHead
  split
  · simp
  · split <;> simp
  · simp
@[simp] theorem applyToHead_link (r : Request) (rest : List IntakeEntry) (v : Verdict) (s : State) : (applyToHead r rest v s).link = s.link := by
  unfold applyToHead
  split
  · simp
  · split <;> simp
  · simp
@[simp] theorem applyToHead_choices (r : Request) (rest : List IntakeEntry) (v : Verdict) (s : State) : (applyToHead r rest v s).choices = s.choices := by
  unfold applyToHead
  split
  · simp
  · split <;> simp
  · simp
@[simp] theorem applyToHead_pending (r : Request) (rest : List IntakeEntry) (v : Verdict) (s : State) : (applyToHead r rest v s).pending = s.pending := by
  unfold applyToHead
  split
  · simp
  · split <;> simp
  · simp

@[simp] theorem examineSubject_porn (subject : Subject) (s : State) : (examineSubject subject s).porn = s.porn := by
  unfold examineSubject
  repeat' split
  all_goals simp
@[simp] theorem examineSubject_now (subject : Subject) (s : State) : (examineSubject subject s).now = s.now := by
  unfold examineSubject
  repeat' split
  all_goals simp
@[simp] theorem examineSubject_mport (subject : Subject) (s : State) : (examineSubject subject s).mport = s.mport := by
  unfold examineSubject
  repeat' split
  all_goals simp
@[simp] theorem examineSubject_regions (subject : Subject) (s : State) : (examineSubject subject s).regions = s.regions := by
  unfold examineSubject
  repeat' split
  all_goals simp
@[simp] theorem examineSubject_engine (subject : Subject) (s : State) : (examineSubject subject s).engine = s.engine := by
  unfold examineSubject
  repeat' split
  all_goals simp
@[simp] theorem examineSubject_timer (subject : Subject) (s : State) : (examineSubject subject s).timer = s.timer := by
  unfold examineSubject
  repeat' split
  all_goals simp
@[simp] theorem examineSubject_params (subject : Subject) (s : State) : (examineSubject subject s).params = s.params := by
  unfold examineSubject
  repeat' split
  all_goals simp
@[simp] theorem examineSubject_link (subject : Subject) (s : State) : (examineSubject subject s).link = s.link := by
  unfold examineSubject
  repeat' split
  all_goals simp
@[simp] theorem examineSubject_choices (subject : Subject) (s : State) : (examineSubject subject s).choices = s.choices := by
  unfold examineSubject
  repeat' split
  all_goals simp
@[simp] theorem examineSubject_pending (subject : Subject) (s : State) : (examineSubject subject s).pending = s.pending := by
  unfold examineSubject
  repeat' split
  all_goals simp

@[simp] theorem settleEntryRecord_porn (e : HostEntry) (a : MemAnswer) (s : State) : (settleEntryRecord e a s).porn = s.porn := by unfold settleEntryRecord; split <;> simp
@[simp] theorem settleEntryRecord_now (e : HostEntry) (a : MemAnswer) (s : State) : (settleEntryRecord e a s).now = s.now := by unfold settleEntryRecord; split <;> simp
@[simp] theorem settleEntryRecord_hport (e : HostEntry) (a : MemAnswer) (s : State) : (settleEntryRecord e a s).hport = s.hport := by unfold settleEntryRecord; split <;> simp
@[simp] theorem settleEntryRecord_mport (e : HostEntry) (a : MemAnswer) (s : State) : (settleEntryRecord e a s).mport = s.mport := by unfold settleEntryRecord; split <;> simp
@[simp] theorem settleEntryRecord_regions (e : HostEntry) (a : MemAnswer) (s : State) : (settleEntryRecord e a s).regions = s.regions := by unfold settleEntryRecord; split <;> simp
@[simp] theorem settleEntryRecord_tracker (e : HostEntry) (a : MemAnswer) (s : State) : (settleEntryRecord e a s).tracker = s.tracker := by unfold settleEntryRecord; split <;> simp
@[simp] theorem settleEntryRecord_stack (e : HostEntry) (a : MemAnswer) (s : State) : (settleEntryRecord e a s).stack = s.stack := by unfold settleEntryRecord; split <;> simp
@[simp] theorem settleEntryRecord_engine (e : HostEntry) (a : MemAnswer) (s : State) : (settleEntryRecord e a s).engine = s.engine := by unfold settleEntryRecord; split <;> simp
@[simp] theorem settleEntryRecord_timer (e : HostEntry) (a : MemAnswer) (s : State) : (settleEntryRecord e a s).timer = s.timer := by unfold settleEntryRecord; split <;> simp
@[simp] theorem settleEntryRecord_events (e : HostEntry) (a : MemAnswer) (s : State) : (settleEntryRecord e a s).events = s.events := by unfold settleEntryRecord; split <;> simp
@[simp] theorem settleEntryRecord_params (e : HostEntry) (a : MemAnswer) (s : State) : (settleEntryRecord e a s).params = s.params := by unfold settleEntryRecord; split <;> simp
@[simp] theorem settleEntryRecord_link (e : HostEntry) (a : MemAnswer) (s : State) : (settleEntryRecord e a s).link = s.link := by unfold settleEntryRecord; split <;> simp
@[simp] theorem settleEntryRecord_readySeq (e : HostEntry) (a : MemAnswer) (s : State) : (settleEntryRecord e a s).readySeq = s.readySeq := by unfold settleEntryRecord; split <;> simp
@[simp] theorem settleEntryRecord_choices (e : HostEntry) (a : MemAnswer) (s : State) : (settleEntryRecord e a s).choices = s.choices := by unfold settleEntryRecord; split <;> simp
@[simp] theorem settleEntryRecord_pending (e : HostEntry) (a : MemAnswer) (s : State) : (settleEntryRecord e a s).pending = s.pending := by unfold settleEntryRecord; split <;> simp

@[simp] theorem hostAnswered_porn (e : HostEntry) (a : MemAnswer) (s : State) : (hostAnswered e a s).porn = s.porn := by
  unfold hostAnswered
  repeat' split
  all_goals simp
@[simp] theorem hostAnswered_now (e : HostEntry) (a : MemAnswer) (s : State) : (hostAnswered e a s).now = s.now := by
  unfold hostAnswered
  repeat' split
  all_goals simp
@[simp] theorem hostAnswered_hport (e : HostEntry) (a : MemAnswer) (s : State) : (hostAnswered e a s).hport = s.hport := by
  unfold hostAnswered
  repeat' split
  all_goals simp
@[simp] theorem hostAnswered_mport (e : HostEntry) (a : MemAnswer) (s : State) : (hostAnswered e a s).mport = s.mport := by
  unfold hostAnswered
  repeat' split
  all_goals simp
@[simp] theorem hostAnswered_regions (e : HostEntry) (a : MemAnswer) (s : State) : (hostAnswered e a s).regions = s.regions := by
  unfold hostAnswered
  repeat' split
  all_goals simp
@[simp] theorem hostAnswered_params (e : HostEntry) (a : MemAnswer) (s : State) : (hostAnswered e a s).params = s.params := by
  unfold hostAnswered
  repeat' split
  all_goals simp
@[simp] theorem hostAnswered_link (e : HostEntry) (a : MemAnswer) (s : State) : (hostAnswered e a s).link = s.link := by
  unfold hostAnswered
  repeat' split
  all_goals simp
@[simp] theorem hostAnswered_choices (e : HostEntry) (a : MemAnswer) (s : State) : (hostAnswered e a s).choices = s.choices := by
  unfold hostAnswered
  repeat' split
  all_goals simp
@[simp] theorem hostAnswered_pending (e : HostEntry) (a : MemAnswer) (s : State) : (hostAnswered e a s).pending = s.pending := by
  unfold hostAnswered
  repeat' split
  all_goals simp

@[simp] theorem restoreAnswered_porn (e : RestoreEntry) (a : MemAnswer) (s : State) : (restoreAnswered e a s).porn = s.porn := by
  unfold restoreAnswered
  repeat' split
  all_goals simp
@[simp] theorem restoreAnswered_now (e : RestoreEntry) (a : MemAnswer) (s : State) : (restoreAnswered e a s).now = s.now := by
  unfold restoreAnswered
  repeat' split
  all_goals simp
@[simp] theorem restoreAnswered_hport (e : RestoreEntry) (a : MemAnswer) (s : State) : (restoreAnswered e a s).hport = s.hport := by
  unfold restoreAnswered
  repeat' split
  all_goals simp
@[simp] theorem restoreAnswered_mport (e : RestoreEntry) (a : MemAnswer) (s : State) : (restoreAnswered e a s).mport = s.mport := by
  unfold restoreAnswered
  repeat' split
  all_goals simp
@[simp] theorem restoreAnswered_regions (e : RestoreEntry) (a : MemAnswer) (s : State) : (restoreAnswered e a s).regions = s.regions := by
  unfold restoreAnswered
  repeat' split
  all_goals simp
@[simp] theorem restoreAnswered_params (e : RestoreEntry) (a : MemAnswer) (s : State) : (restoreAnswered e a s).params = s.params := by
  unfold restoreAnswered
  repeat' split
  all_goals simp
@[simp] theorem restoreAnswered_link (e : RestoreEntry) (a : MemAnswer) (s : State) : (restoreAnswered e a s).link = s.link := by
  unfold restoreAnswered
  repeat' split
  all_goals simp
@[simp] theorem restoreAnswered_readySeq (e : RestoreEntry) (a : MemAnswer) (s : State) : (restoreAnswered e a s).readySeq = s.readySeq := by
  unfold restoreAnswered
  repeat' split
  all_goals simp
@[simp] theorem restoreAnswered_choices (e : RestoreEntry) (a : MemAnswer) (s : State) : (restoreAnswered e a s).choices = s.choices := by
  unfold restoreAnswered
  repeat' split
  all_goals simp
@[simp] theorem restoreAnswered_pending (e : RestoreEntry) (a : MemAnswer) (s : State) : (restoreAnswered e a s).pending = s.pending := by
  unfold restoreAnswered
  repeat' split
  all_goals simp

@[simp] theorem storeFullAction_porn (v : Nat) (s : State) : (storeFullAction v s).porn = s.porn := by unfold storeFullAction; dsimp only; split <;> simp
@[simp] theorem storeFullAction_now (v : Nat) (s : State) : (storeFullAction v s).now = s.now := by unfold storeFullAction; dsimp only; split <;> simp
@[simp] theorem storeFullAction_hport (v : Nat) (s : State) : (storeFullAction v s).hport = s.hport := by unfold storeFullAction; dsimp only; split <;> simp
@[simp] theorem storeFullAction_mport (v : Nat) (s : State) : (storeFullAction v s).mport = s.mport := by unfold storeFullAction; dsimp only; split <;> simp
@[simp] theorem storeFullAction_regions (v : Nat) (s : State) : (storeFullAction v s).regions = s.regions := by unfold storeFullAction; dsimp only; split <;> simp
@[simp] theorem storeFullAction_tracker (v : Nat) (s : State) : (storeFullAction v s).tracker = s.tracker := by unfold storeFullAction; dsimp only; split <;> simp
@[simp] theorem storeFullAction_journal (v : Nat) (s : State) : (storeFullAction v s).journal = s.journal := by unfold storeFullAction; dsimp only; split <;> simp
@[simp] theorem storeFullAction_stack (v : Nat) (s : State) : (storeFullAction v s).stack = s.stack := by unfold storeFullAction; dsimp only; split <;> simp
@[simp] theorem storeFullAction_engine (v : Nat) (s : State) : (storeFullAction v s).engine = s.engine := by unfold storeFullAction; dsimp only; split <;> simp
@[simp] theorem storeFullAction_timer (v : Nat) (s : State) : (storeFullAction v s).timer = s.timer := by unfold storeFullAction; dsimp only; split <;> simp
@[simp] theorem storeFullAction_events (v : Nat) (s : State) : (storeFullAction v s).events = s.events := by unfold storeFullAction; dsimp only; split <;> simp
@[simp] theorem storeFullAction_link (v : Nat) (s : State) : (storeFullAction v s).link = s.link := by unfold storeFullAction; dsimp only; split <;> simp
@[simp] theorem storeFullAction_readySeq (v : Nat) (s : State) : (storeFullAction v s).readySeq = s.readySeq := by unfold storeFullAction; dsimp only; split <;> simp
@[simp] theorem storeFullAction_choices (v : Nat) (s : State) : (storeFullAction v s).choices = s.choices := by unfold storeFullAction; dsimp only; split <;> simp
@[simp] theorem storeFullAction_pending (v : Nat) (s : State) : (storeFullAction v s).pending = s.pending := by unfold storeFullAction; dsimp only; split <;> simp

@[simp] theorem timerAtEnable_porn (s : State) : (timerAtEnable s).porn = s.porn := by
  unfold timerAtEnable
  repeat' split
  all_goals simp
@[simp] theorem timerAtEnable_now (s : State) : (timerAtEnable s).now = s.now := by
  unfold timerAtEnable
  repeat' split
  all_goals simp
@[simp] theorem timerAtEnable_hport (s : State) : (timerAtEnable s).hport = s.hport := by
  unfold timerAtEnable
  repeat' split
  all_goals simp
@[simp] theorem timerAtEnable_mport (s : State) : (timerAtEnable s).mport = s.mport := by
  unfold timerAtEnable
  repeat' split
  all_goals simp
@[simp] theorem timerAtEnable_regions (s : State) : (timerAtEnable s).regions = s.regions := by
  unfold timerAtEnable
  repeat' split
  all_goals simp
@[simp] theorem timerAtEnable_admission (s : State) : (timerAtEnable s).admission = s.admission := by
  unfold timerAtEnable
  repeat' split
  all_goals simp
@[simp] theorem timerAtEnable_tracker (s : State) : (timerAtEnable s).tracker = s.tracker := by
  unfold timerAtEnable
  repeat' split
  all_goals simp
@[simp] theorem timerAtEnable_journal (s : State) : (timerAtEnable s).journal = s.journal := by
  unfold timerAtEnable
  repeat' split
  all_goals simp
@[simp] theorem timerAtEnable_stack (s : State) : (timerAtEnable s).stack = s.stack := by
  unfold timerAtEnable
  repeat' split
  all_goals simp
@[simp] theorem timerAtEnable_engine (s : State) : (timerAtEnable s).engine = s.engine := by
  unfold timerAtEnable
  repeat' split
  all_goals simp
@[simp] theorem timerAtEnable_events (s : State) : (timerAtEnable s).events = s.events := by
  unfold timerAtEnable
  repeat' split
  all_goals simp
@[simp] theorem timerAtEnable_params (s : State) : (timerAtEnable s).params = s.params := by
  unfold timerAtEnable
  repeat' split
  all_goals simp
@[simp] theorem timerAtEnable_link (s : State) : (timerAtEnable s).link = s.link := by
  unfold timerAtEnable
  repeat' split
  all_goals simp
@[simp] theorem timerAtEnable_readySeq (s : State) : (timerAtEnable s).readySeq = s.readySeq := by
  unfold timerAtEnable
  repeat' split
  all_goals simp
@[simp] theorem timerAtEnable_choices (s : State) : (timerAtEnable s).choices = s.choices := by
  unfold timerAtEnable
  repeat' split
  all_goals simp
@[simp] theorem timerAtEnable_pending (s : State) : (timerAtEnable s).pending = s.pending := by
  unfold timerAtEnable
  repeat' split
  all_goals simp

@[simp] theorem storeDlEnable_porn (v : Nat) (s : State) : (storeDlEnable v s).porn = s.porn := by unfold storeDlEnable; split <;> simp
@[simp] theorem storeDlEnable_now (v : Nat) (s : State) : (storeDlEnable v s).now = s.now := by unfold storeDlEnable; split <;> simp
@[simp] theorem storeDlEnable_hport (v : Nat) (s : State) : (storeDlEnable v s).hport = s.hport := by unfold storeDlEnable; split <;> simp
@[simp] theorem storeDlEnable_mport (v : Nat) (s : State) : (storeDlEnable v s).mport = s.mport := by unfold storeDlEnable; split <;> simp
@[simp] theorem storeDlEnable_regions (v : Nat) (s : State) : (storeDlEnable v s).regions = s.regions := by unfold storeDlEnable; split <;> simp
@[simp] theorem storeDlEnable_admission (v : Nat) (s : State) : (storeDlEnable v s).admission = s.admission := by unfold storeDlEnable; split <;> simp
@[simp] theorem storeDlEnable_tracker (v : Nat) (s : State) : (storeDlEnable v s).tracker = s.tracker := by unfold storeDlEnable; split <;> simp
@[simp] theorem storeDlEnable_journal (v : Nat) (s : State) : (storeDlEnable v s).journal = s.journal := by unfold storeDlEnable; split <;> simp
@[simp] theorem storeDlEnable_stack (v : Nat) (s : State) : (storeDlEnable v s).stack = s.stack := by unfold storeDlEnable; split <;> simp
@[simp] theorem storeDlEnable_engine (v : Nat) (s : State) : (storeDlEnable v s).engine = s.engine := by unfold storeDlEnable; split <;> simp
@[simp] theorem storeDlEnable_events (v : Nat) (s : State) : (storeDlEnable v s).events = s.events := by unfold storeDlEnable; split <;> simp
@[simp] theorem storeDlEnable_link (v : Nat) (s : State) : (storeDlEnable v s).link = s.link := by unfold storeDlEnable; split <;> simp
@[simp] theorem storeDlEnable_readySeq (v : Nat) (s : State) : (storeDlEnable v s).readySeq = s.readySeq := by unfold storeDlEnable; split <;> simp
@[simp] theorem storeDlEnable_choices (v : Nat) (s : State) : (storeDlEnable v s).choices = s.choices := by unfold storeDlEnable; split <;> simp
@[simp] theorem storeDlEnable_pending (v : Nat) (s : State) : (storeDlEnable v s).pending = s.pending := by unfold storeDlEnable; split <;> simp

@[simp] theorem promoteIfDirty_porn (s : State) : (promoteIfDirty s).porn = s.porn := by unfold promoteIfDirty; split <;> simp
@[simp] theorem promoteIfDirty_now (s : State) : (promoteIfDirty s).now = s.now := by unfold promoteIfDirty; split <;> simp
@[simp] theorem promoteIfDirty_hport (s : State) : (promoteIfDirty s).hport = s.hport := by unfold promoteIfDirty; split <;> simp
@[simp] theorem promoteIfDirty_mport (s : State) : (promoteIfDirty s).mport = s.mport := by unfold promoteIfDirty; split <;> simp
@[simp] theorem promoteIfDirty_tracker (s : State) : (promoteIfDirty s).tracker = s.tracker := by unfold promoteIfDirty; split <;> simp
@[simp] theorem promoteIfDirty_journal (s : State) : (promoteIfDirty s).journal = s.journal := by unfold promoteIfDirty; split <;> simp
@[simp] theorem promoteIfDirty_stack (s : State) : (promoteIfDirty s).stack = s.stack := by unfold promoteIfDirty; split <;> simp
@[simp] theorem promoteIfDirty_engine (s : State) : (promoteIfDirty s).engine = s.engine := by unfold promoteIfDirty; split <;> simp
@[simp] theorem promoteIfDirty_timer (s : State) : (promoteIfDirty s).timer = s.timer := by unfold promoteIfDirty; split <;> simp
@[simp] theorem promoteIfDirty_events (s : State) : (promoteIfDirty s).events = s.events := by unfold promoteIfDirty; split <;> simp
@[simp] theorem promoteIfDirty_params (s : State) : (promoteIfDirty s).params = s.params := by unfold promoteIfDirty; split <;> simp
@[simp] theorem promoteIfDirty_link (s : State) : (promoteIfDirty s).link = s.link := by unfold promoteIfDirty; split <;> simp
@[simp] theorem promoteIfDirty_readySeq (s : State) : (promoteIfDirty s).readySeq = s.readySeq := by unfold promoteIfDirty; split <;> simp
@[simp] theorem promoteIfDirty_choices (s : State) : (promoteIfDirty s).choices = s.choices := by unfold promoteIfDirty; split <;> simp
@[simp] theorem promoteIfDirty_pending (s : State) : (promoteIfDirty s).pending = s.pending := by unfold promoteIfDirty; split <;> simp

@[simp] theorem acceptMark_porn (s : State) : (acceptMark s).porn = s.porn := by simp [acceptMark]
@[simp] theorem acceptMark_now (s : State) : (acceptMark s).now = s.now := by simp [acceptMark]
@[simp] theorem acceptMark_hport (s : State) : (acceptMark s).hport = s.hport := by simp [acceptMark]
@[simp] theorem acceptMark_mport (s : State) : (acceptMark s).mport = s.mport := by simp [acceptMark]
@[simp] theorem acceptMark_tracker (s : State) : (acceptMark s).tracker = s.tracker := by simp [acceptMark]
@[simp] theorem acceptMark_journal (s : State) : (acceptMark s).journal = s.journal := by simp [acceptMark]
@[simp] theorem acceptMark_events (s : State) : (acceptMark s).events = s.events := by simp [acceptMark]
@[simp] theorem acceptMark_params (s : State) : (acceptMark s).params = s.params := by simp [acceptMark]
@[simp] theorem acceptMark_link (s : State) : (acceptMark s).link = s.link := by simp [acceptMark]
@[simp] theorem acceptMark_readySeq (s : State) : (acceptMark s).readySeq = s.readySeq := by simp [acceptMark]
@[simp] theorem acceptMark_choices (s : State) : (acceptMark s).choices = s.choices := by simp [acceptMark]
@[simp] theorem acceptMark_pending (s : State) : (acceptMark s).pending = s.pending := by simp [acceptMark]

@[simp] theorem timerAfterRelease_porn (s : State) : (timerAfterRelease s).porn = s.porn := by unfold timerAfterRelease; split <;> simp
@[simp] theorem timerAfterRelease_now (s : State) : (timerAfterRelease s).now = s.now := by unfold timerAfterRelease; split <;> simp
@[simp] theorem timerAfterRelease_hport (s : State) : (timerAfterRelease s).hport = s.hport := by unfold timerAfterRelease; split <;> simp
@[simp] theorem timerAfterRelease_mport (s : State) : (timerAfterRelease s).mport = s.mport := by unfold timerAfterRelease; split <;> simp
@[simp] theorem timerAfterRelease_regions (s : State) : (timerAfterRelease s).regions = s.regions := by unfold timerAfterRelease; split <;> simp
@[simp] theorem timerAfterRelease_admission (s : State) : (timerAfterRelease s).admission = s.admission := by unfold timerAfterRelease; split <;> simp
@[simp] theorem timerAfterRelease_tracker (s : State) : (timerAfterRelease s).tracker = s.tracker := by unfold timerAfterRelease; split <;> simp
@[simp] theorem timerAfterRelease_journal (s : State) : (timerAfterRelease s).journal = s.journal := by unfold timerAfterRelease; split <;> simp
@[simp] theorem timerAfterRelease_stack (s : State) : (timerAfterRelease s).stack = s.stack := by unfold timerAfterRelease; split <;> simp
@[simp] theorem timerAfterRelease_engine (s : State) : (timerAfterRelease s).engine = s.engine := by unfold timerAfterRelease; split <;> simp
@[simp] theorem timerAfterRelease_events (s : State) : (timerAfterRelease s).events = s.events := by unfold timerAfterRelease; split <;> simp
@[simp] theorem timerAfterRelease_params (s : State) : (timerAfterRelease s).params = s.params := by unfold timerAfterRelease; split <;> simp
@[simp] theorem timerAfterRelease_link (s : State) : (timerAfterRelease s).link = s.link := by unfold timerAfterRelease; split <;> simp
@[simp] theorem timerAfterRelease_readySeq (s : State) : (timerAfterRelease s).readySeq = s.readySeq := by unfold timerAfterRelease; split <;> simp
@[simp] theorem timerAfterRelease_choices (s : State) : (timerAfterRelease s).choices = s.choices := by unfold timerAfterRelease; split <;> simp
@[simp] theorem timerAfterRelease_pending (s : State) : (timerAfterRelease s).pending = s.pending := by unfold timerAfterRelease; split <;> simp

@[simp] theorem acceptRelease_porn (n : Nat) (s : State) : (acceptRelease n s).porn = s.porn := by simp [acceptRelease]
@[simp] theorem acceptRelease_now (n : Nat) (s : State) : (acceptRelease n s).now = s.now := by simp [acceptRelease]
@[simp] theorem acceptRelease_hport (n : Nat) (s : State) : (acceptRelease n s).hport = s.hport := by simp [acceptRelease]
@[simp] theorem acceptRelease_mport (n : Nat) (s : State) : (acceptRelease n s).mport = s.mport := by simp [acceptRelease]
@[simp] theorem acceptRelease_regions (n : Nat) (s : State) : (acceptRelease n s).regions = s.regions := by simp [acceptRelease]
@[simp] theorem acceptRelease_tracker (n : Nat) (s : State) : (acceptRelease n s).tracker = s.tracker := by simp [acceptRelease]
@[simp] theorem acceptRelease_engine (n : Nat) (s : State) : (acceptRelease n s).engine = s.engine := by simp [acceptRelease]
@[simp] theorem acceptRelease_events (n : Nat) (s : State) : (acceptRelease n s).events = s.events := by simp [acceptRelease]
@[simp] theorem acceptRelease_params (n : Nat) (s : State) : (acceptRelease n s).params = s.params := by simp [acceptRelease]
@[simp] theorem acceptRelease_link (n : Nat) (s : State) : (acceptRelease n s).link = s.link := by simp [acceptRelease]
@[simp] theorem acceptRelease_readySeq (n : Nat) (s : State) : (acceptRelease n s).readySeq = s.readySeq := by simp [acceptRelease]
@[simp] theorem acceptRelease_choices (n : Nat) (s : State) : (acceptRelease n s).choices = s.choices := by simp [acceptRelease]
@[simp] theorem acceptRelease_pending (n : Nat) (s : State) : (acceptRelease n s).pending = s.pending := by simp [acceptRelease]

@[simp] theorem acceptDiscard_porn (s : State) : (acceptDiscard s).porn = s.porn := by simp [acceptDiscard]
@[simp] theorem acceptDiscard_now (s : State) : (acceptDiscard s).now = s.now := by simp [acceptDiscard]
@[simp] theorem acceptDiscard_hport (s : State) : (acceptDiscard s).hport = s.hport := by simp [acceptDiscard]
@[simp] theorem acceptDiscard_mport (s : State) : (acceptDiscard s).mport = s.mport := by simp [acceptDiscard]
@[simp] theorem acceptDiscard_regions (s : State) : (acceptDiscard s).regions = s.regions := by simp [acceptDiscard]
@[simp] theorem acceptDiscard_tracker (s : State) : (acceptDiscard s).tracker = s.tracker := by simp [acceptDiscard]
@[simp] theorem acceptDiscard_events (s : State) : (acceptDiscard s).events = s.events := by simp [acceptDiscard]
@[simp] theorem acceptDiscard_params (s : State) : (acceptDiscard s).params = s.params := by simp [acceptDiscard]
@[simp] theorem acceptDiscard_link (s : State) : (acceptDiscard s).link = s.link := by simp [acceptDiscard]
@[simp] theorem acceptDiscard_readySeq (s : State) : (acceptDiscard s).readySeq = s.readySeq := by simp [acceptDiscard]
@[simp] theorem acceptDiscard_choices (s : State) : (acceptDiscard s).choices = s.choices := by simp [acceptDiscard]
@[simp] theorem acceptDiscard_pending (s : State) : (acceptDiscard s).pending = s.pending := by simp [acceptDiscard]

@[simp] theorem setSoftwareState_porn (i : RegionIndex) (v : SoftwareState) (s : State) : (setSoftwareState i v s).porn = s.porn := by unfold setSoftwareState; dsimp only; split <;> simp
@[simp] theorem setSoftwareState_now (i : RegionIndex) (v : SoftwareState) (s : State) : (setSoftwareState i v s).now = s.now := by unfold setSoftwareState; dsimp only; split <;> simp
@[simp] theorem setSoftwareState_hport (i : RegionIndex) (v : SoftwareState) (s : State) : (setSoftwareState i v s).hport = s.hport := by unfold setSoftwareState; dsimp only; split <;> simp
@[simp] theorem setSoftwareState_mport (i : RegionIndex) (v : SoftwareState) (s : State) : (setSoftwareState i v s).mport = s.mport := by unfold setSoftwareState; dsimp only; split <;> simp
@[simp] theorem setSoftwareState_tracker (i : RegionIndex) (v : SoftwareState) (s : State) : (setSoftwareState i v s).tracker = s.tracker := by unfold setSoftwareState; dsimp only; split <;> simp
@[simp] theorem setSoftwareState_journal (i : RegionIndex) (v : SoftwareState) (s : State) : (setSoftwareState i v s).journal = s.journal := by unfold setSoftwareState; dsimp only; split <;> simp
@[simp] theorem setSoftwareState_stack (i : RegionIndex) (v : SoftwareState) (s : State) : (setSoftwareState i v s).stack = s.stack := by unfold setSoftwareState; dsimp only; split <;> simp
@[simp] theorem setSoftwareState_engine (i : RegionIndex) (v : SoftwareState) (s : State) : (setSoftwareState i v s).engine = s.engine := by unfold setSoftwareState; dsimp only; split <;> simp
@[simp] theorem setSoftwareState_timer (i : RegionIndex) (v : SoftwareState) (s : State) : (setSoftwareState i v s).timer = s.timer := by unfold setSoftwareState; dsimp only; split <;> simp
@[simp] theorem setSoftwareState_events (i : RegionIndex) (v : SoftwareState) (s : State) : (setSoftwareState i v s).events = s.events := by unfold setSoftwareState; dsimp only; split <;> simp
@[simp] theorem setSoftwareState_params (i : RegionIndex) (v : SoftwareState) (s : State) : (setSoftwareState i v s).params = s.params := by unfold setSoftwareState; dsimp only; split <;> simp
@[simp] theorem setSoftwareState_link (i : RegionIndex) (v : SoftwareState) (s : State) : (setSoftwareState i v s).link = s.link := by unfold setSoftwareState; dsimp only; split <;> simp
@[simp] theorem setSoftwareState_readySeq (i : RegionIndex) (v : SoftwareState) (s : State) : (setSoftwareState i v s).readySeq = s.readySeq := by unfold setSoftwareState; dsimp only; split <;> simp
@[simp] theorem setSoftwareState_choices (i : RegionIndex) (v : SoftwareState) (s : State) : (setSoftwareState i v s).choices = s.choices := by unfold setSoftwareState; dsimp only; split <;> simp
@[simp] theorem setSoftwareState_pending (i : RegionIndex) (v : SoftwareState) (s : State) : (setSoftwareState i v s).pending = s.pending := by unfold setSoftwareState; dsimp only; split <;> simp

end Sys2Proof.Machine
end

