-- ==== Sys2Proof/Laws/Ops.lean ====
section
/-!
SUPPORT. For each shared operation, what it can do: the lemmas to cite in place of its definition.
-/

namespace Sys2Proof.Machine

/-! ## The service link -/

/-- With the premises of Receives a frame of legal length is executed. -/
theorem receiveFrame_of_receives {f : Frame} {s : State} (h : Receives f s) (hl : f.payload.length ≤ 40)
    (execute : State → State) : receiveFrame f execute s = execute s := by
  obtain ⟨hp, hq, hs, ht⟩ := h
  simp [receiveFrame, linkListens, hp, hq, hs, ht, quiescing, Config.maxPayload, hl]

/-- A frame that the link does not take leaves no trace. -/
theorem receiveFrame_of_not_listening {f : Frame} {s : State} (h : linkListens f.start s = false) (execute : State → State) :
    receiveFrame f execute s = s := by
  simp [receiveFrame, h]

/-- Everything that can become of a command frame. -/
theorem receiveFrame_cases (f : Frame) (execute : State → State) (s : State) :
    receiveFrame f execute s = s ∧ linkListens f.start s = false ∨
      receiveFrame f execute s = storeFrameErr s ∧ linkListens f.start s = true ∧ 40 < f.payload.length ∨
      receiveFrame f execute s = storeRepeat s ∧ linkListens f.start s = true ∧ f.toggle ≠ s.link.expected ∨
      receiveFrame f execute s = execute s ∧ Receives f s ∧ f.payload.length ≤ 40 := by
  unfold receiveFrame
  split
  · exact .inl ⟨rfl, ‹_›⟩
  · rename_i h
    have hl : linkListens f.start s = true := by simpa using h
    split
    · exact .inr (.inl ⟨rfl, hl, ‹_›⟩)
    · rename_i hlen
      split
      · exact .inr (.inr (.inl ⟨rfl, hl, ‹_›⟩))
      · rename_i ht
        have hr : s.porn = true ∧ s.link.quiesce = none ∧ f.start = .live := by
          simpa [linkListens, quiescing, and_assoc] using hl
        exact .inr (.inr (.inr ⟨rfl, ⟨hr.1, hr.2.1, hr.2.2, not_not.mp ht⟩, not_lt.mp hlen⟩))

/-- The response of an executed frame is the link of Safety's answeredLink. -/
theorem respond_eq (f : Frame) (status : Status) (payload : List Byte) (s : State) :
    respond f.toggle status payload s = { s with link := answeredLink f status payload s.link } := rfl

/-- A frame of the right length whose command is not turned away as NOTREADY: the command's own part and its response. -/
theorem execCommand_of_receives {f : Frame} {s : State} {n : Nat} {needs : Bool} (h : Receives f s)
    (hn : f.payload.length = n) (hl : n ≤ 40) (hj : needs = true → s.journal.readiness = .ready) (own : State → Reply) :
    execCommand f n needs own s =
      { (own s).after with link := answeredLink f (own s).status (own s).payload (own s).after.link } := by
  rw [execCommand, receiveFrame_of_receives h (hn ▸ hl)]
  have : ¬(needs = true ∧ journalIsReady s = false) := by
    rintro ⟨h1, h2⟩
    simp [journalIsReady, hj h1] at h2
  simp only [hn, ne_eq, not_true_eq_false, if_false, this, respond_eq]

/-- Everything that can become of the frame of a command with generic checks. -/
theorem execCommand_cases (f : Frame) (n : Nat) (needs : Bool) (own : State → Reply) (s : State) :
    (∃ l, execCommand f n needs own s = { s with link := l }) ∨
      Receives f s ∧ f.payload.length = n ∧ (needs = true → s.journal.readiness = .ready) ∧
        execCommand f n needs own s =
          { (own s).after with link := answeredLink f (own s).status (own s).payload (own s).after.link } := by
  rw [execCommand]
  rcases receiveFrame_cases f _ s with h | h | h | h
  · exact .inl ⟨s.link, h.1⟩
  · exact .inl ⟨_, h.1⟩
  · exact .inl ⟨_, h.1⟩
  · rw [h.1]
    split
    · exact .inl ⟨_, rfl⟩
    · split
      · exact .inl ⟨_, rfl⟩
      · rename_i hn hj
        refine .inr ⟨h.2.1, not_not.mp hn, fun hneeds => ?_, rfl⟩
        have : journalIsReady s = true := by simpa [hneeds] using hj
        simpa [journalIsReady] using this

/-! ## The selector -/

/-- Everything the selector can do: nothing while a response is offered or none is ready, and else one of those ready longest
is offered. -/
theorem offerNext_cases (s : State) :
    offerNext s = s ∧ (s.hport.offered ≠ none ∨ longestReady s = []) ∨
      s.hport.offered = none ∧ ∃ h ∈ longestReady s, ∃ n,
        offerNext s = { s with hport := { s.hport with offered := some h }, choices := n } := by
  unfold offerNext
  split
  · rename_i h
    exact .inl ⟨rfl, .inl (by simp [h])⟩
  · rename_i h
    split
    · exact .inl ⟨rfl, .inr ‹_›⟩
    · rename_i h' hl
      exact .inr ⟨h, h', by simp [hl], s.choices, rfl⟩
    · rename_i a b rest hl
      have hlt : Config.selectorChoice s.choices % (a :: b :: rest).length < (a :: b :: rest).length :=
        Nat.mod_lt _ (by simp)
      refine .inr ⟨h, (a :: b :: rest)[Config.selectorChoice s.choices % (a :: b :: rest).length], ?_, s.choices + 1, ?_⟩
      · rw [hl]; exact List.getElem_mem _
      · simp only [List.getElem?_eq_getElem hlt]

/-- What the selector offers has been ready at least as long as any other response (R8). -/
theorem longestReady_le {s : State} {h : Holder} (hm : h ∈ longestReady s) :
    ∃ n, (h, n) ∈ readyHolders s ∧ ∀ h' n', (h', n') ∈ readyHolders s → n ≤ n' := by
  unfold longestReady at hm
  split at hm
  · cases hm
  · rename_i t ht
    rw [List.min?_eq_some_iff] at ht
    obtain ⟨⟨h2, n⟩, hx, rfl⟩ := List.mem_map.mp hm
    simp only [List.mem_filter, decide_eq_true_eq] at hx
    refine ⟨n, hx.1, fun h' n' hm' => ?_⟩
    rw [hx.2]
    exact ht.2 _ (List.mem_map.mpr ⟨(h', n'), hm', rfl⟩)

/-- If some response is ready, some holder has been ready longest. -/
theorem longestReady_ne_nil {s : State} (h : readyHolders s ≠ []) : longestReady s ≠ [] := by
  unfold longestReady
  split
  · rename_i hm
    simp [List.min?_eq_none_iff] at hm
    exact absurd hm h
  · rename_i t ht
    rw [List.min?_eq_some_iff] at ht
    obtain ⟨x, hx, rfl⟩ := List.mem_map.mp ht.1
    exact List.ne_nil_of_mem (List.mem_map.mpr ⟨x, by simp [hx], rfl⟩)

/-! ## Releases -/

/-- One wait-list entry under a clearing: it is marked unless it is answering (R53, R54). -/
theorem markReleased_eq (b : Prop) [Decidable b] (e : WaitEntry) :
    (if b then markReleased e else e) = if b ∧ e.answering = none then { e with released := true } else e := by
  by_cases h : b <;> cases ha : e.answering <;> simp [h, markReleased, ha]

/-- A release is what R53 says of the wait list and R58 of a held head, for the predicate that the clearing stands for. -/
theorem release_eq (c : Clearing) (s : State) :
    release c s = { s with admission := releasedWhere (clears c) s } := by
  unfold release releasedWhere
  simp only [markReleased_eq]
  cases hi : s.hport.intake <;> cases hh : s.admission.held <;> simp [markHeld]

/-- The clearing of reason JFULL (R53). -/
theorem clears_journal : clears .journal = fun reason _ _ => reason == .jfull := rfl

/-- The clearing of reason ROLLBACK (R53). -/
theorem clears_engineLeft : clears .engineLeft = fun reason _ _ => reason == .rollback := rfl

/-- The JFULL waiters are released when the occupancy falls from 1024 (R78). -/
theorem signalFall_eq (before : Nat) (s : State) :
    signalFall before s =
      { s with
        admission :=
          if before = 1024 ∧ s.journal.ring.length < 1024 then releasedWhere (fun reason _ _ => reason == .jfull) s
          else s.admission } := by
  unfold signalFall
  simp only [occupancy, Config.ringSize]
  by_cases h : before = 1024 ∧ s.journal.ring.length < 1024 <;> simp [h, release_eq, clears_journal]

/-- The leaving of an entry is what R57 and R58 say. -/
theorem leaveWaitList_eq {k : Nat} {e : WaitEntry} {s : State} (h : s.admission.waitList[k]? = some e) :
    leaveWaitList k s = { s with admission := leftByEntry k (requestLine e.request) s } := by
  unfold leaveWaitList leftByEntry
  have : releaseBehind (requestLine e.request) = fun x =>
      if x.reason = .line ∧ requestLine x.request = requestLine e.request ∧ x.answering = none then
        { x with released := true }
      else x := by
    funext x
    simp only [releaseBehind, markReleased_eq, and_assoc]
  simp only [h, this]

/-! ## The restore engine -/

/-- Freeing at the tail is what R76, R78 and R91 say. -/
theorem freeAtTail_eq (k : Nat) (s : State) :
    freeAtTail k s = drawnBack (s.journal.ring.take (s.journal.ring.length - k)) k s := by
  unfold freeAtTail drawnBack
  rw [signalFall_eq]
  rfl

/-- Nothing is freed when no position is. -/
theorem drawnBack_zero (s : State) : drawnBack s.journal.ring 0 s = s := by
  unfold drawnBack
  split
  · omega
  · simp

/-- The restart of the timer is Safety's. -/
theorem restartTimer_eq (s : State) : restartTimer s = { s with timer := restarted s } := by
  unfold restartTimer restarted periodOf
  split <;> rfl

/-- The completion of a restore is what R123 says. -/
theorem completeRestore_eq (s : State) : completeRestore s = completes s := by
  unfold completeRestore completes
  rw [restartTimer_eq, release_eq, clears_engineLeft]
  rfl

/-- Step 4 is not taken outside a quiesce. -/
@[simp] theorem settleQuiesce_of_none {s : State} (h : s.link.quiesce = none) : settleQuiesce s = s := by
  simp [settleQuiesce, h]

/-- Everything the settling of a quiesce can do. -/
theorem settleQuiesce_cases (s : State) :
    settleQuiesce s = s ∨ ∃ toggle, s.link.quiesce = some toggle ∧ quiesceDone s = true ∧
      settleQuiesce s = softResetValues toggle s := by
  unfold settleQuiesce
  split
  · exact .inl rfl
  · split
    · exact .inr ⟨_, ‹_›, ‹_›, rfl⟩
    · exact .inl rfl

/-- An engine that is not in DRAIN makes no drain test. -/
@[simp] theorem drainTest_of_ne {s : State} (h : s.engine.state ≠ .drain) : drainTest s = s := by
  simp [drainTest, h]

/-- Everything a drain test can do. -/
theorem drainTest_cases (s : State) :
    drainTest s = s ∧ (s.engine.state = .drain → s.engine.stopping = false → drainHolds s = false) ∨
      s.engine.state = .drain ∧ s.engine.stopping = false ∧ drainHolds s = true ∧
        drainTest s = continueRestore { s with engine := { s.engine with state := .restore } } := by
  unfold drainTest
  split
  · rename_i h
    exact .inr ⟨h.1, h.2.1, h.2.2, rfl⟩
  · rename_i h
    refine .inl ⟨rfl, fun h1 h2 => ?_⟩
    simpa [h1, h2] using h

end Sys2Proof.Machine
end

