-- ==== Sys2Proof/Laws/Examination.lean ====
section
/-!
SUPPORT. What the searches of an examination find, and its three outcomes in the terms of Safety.lean.
-/

namespace Sys2Proof.Machine

/-- The range of an entry (R19, R21). -/
theorem covers_iff (e : RegionEntry) (line : LineAddr) : covers e line = true ↔ inRange e line := by
  simp [covers, inRange, and_assoc]

/-- A search over the indices from 0 up finds none exactly when none fits. -/
theorem find?_finRange_eq_none {n : Nat} (p : Fin n → Bool) :
    (List.finRange n).find? p = none ↔ ∀ i, p i = false := by
  simp [List.find?_eq_none]

/-- A search over the indices from 0 up finds the lowest that fits. -/
theorem find?_finRange_eq_some {n : Nat} (p : Fin n → Bool) (i : Fin n) :
    (List.finRange n).find? p = some i ↔ p i = true ∧ ∀ j < i, p j = false := by
  rw [List.find?_eq_some_iff_getElem]
  constructor
  · rintro ⟨hp, k, hk, hki, hb⟩
    have hk' : k = i.val := by simpa [Fin.ext_iff] using hki
    subst hk'
    refine ⟨hp, fun j hj => ?_⟩
    have := hb j.val hj
    simpa using this
  · rintro ⟨hp, hb⟩
    refine ⟨hp, i.val, by simp, by simp, fun j hj => ?_⟩
    have := hb ⟨j, by omega⟩ (by simpa [Fin.lt_def] using hj)
    simpa using this

/-- A line that matches no index is unmapped (R21). -/
theorem matchLine_eq_none {s : State} {line : LineAddr} : matchLine s.regions line = none ↔ lineUnmapped s line := by
  rw [matchLine, find?_finRange_eq_none]
  simp only [lineUnmapped, ← covers_iff, Bool.not_eq_true]

/-- The matched index is the lowest whose active entry covers the line (R21). -/
theorem matchLine_eq_some {s : State} {line : LineAddr} {i : RegionIndex} :
    matchLine s.regions line = some i ↔ lineMatches s line i := by
  rw [matchLine, find?_finRange_eq_some]
  simp only [lineMatches, ← covers_iff, Bool.not_eq_true]

/-- The fault-lock search (R72). -/
theorem findsLive_iff (j : Journal) (line : LineAddr) : findsLive j line = true ↔ liveRecordAmong j.ring line := by
  simp only [findsLive, liveRecordAmong, List.any_eq_true, Option.any_eq_true, decide_eq_true_eq]
  constructor
  · rintro ⟨_, hm, x, rfl, h⟩; exact ⟨x, hm, h⟩
  · rintro ⟨x, hm, h⟩; exact ⟨_, hm, x, rfl, h⟩

/-- The span search (R72). -/
theorem findsInSpan_iff (s : State) (line : LineAddr) : findsInSpan s line = true ↔ liveRecordAmong (engineSpan s) line := by
  simp only [findsInSpan, liveRecordAmong, List.any_eq_true, Option.any_eq_true, decide_eq_true_eq]
  constructor
  · rintro ⟨_, hm, x, rfl, h⟩; exact ⟨x, hm, h⟩
  · rintro ⟨x, hm, h⟩; exact ⟨_, hm, x, rfl, h⟩

/-- A record is RESERVED or VALID exactly when it is not VOID (R67). -/
theorem protects_iff (x : Record) : protects x = true ↔ x.state ≠ .void := by
  unfold protects
  cases x.state <;> simp

/-- The needs-a-record search in the current epoch (R43, R72). -/
theorem findsProtecting_iff (s : State) (line : LineAddr) :
    findsProtecting s.journal line (currentEpoch s) = true ↔ coveredInEpoch s line := by
  simp only [findsProtecting, coveredInEpoch, List.any_eq_true, Option.any_eq_true, Bool.and_eq_true, decide_eq_true_eq,
    protects_iff]
  constructor
  · rintro ⟨_, hm, x, rfl, h1, h2, h3⟩; exact ⟨x, hm, h2, h3, h1⟩
  · rintro ⟨x, hm, h2, h3, h1⟩; exact ⟨_, hm, x, rfl, h1, h2, h3⟩

/-- The test of R43 for a request that matched an index. -/
theorem needsRecord_iff (s : State) (r : Request) (i : RegionIndex) :
    needsRecord s r i = true ↔ needsNewRecord s r (some i) := by
  simp only [needsRecord, needsNewRecord, Bool.and_eq_true, decide_eq_true_eq, Bool.not_eq_true', and_assoc,
    Option.some.injEq, exists_eq_left', ← findsProtecting_iff, Bool.not_eq_true]

/-- An unmapped request needs no record (R22). -/
theorem not_needsNewRecord_none (s : State) (r : Request) : ¬needsNewRecord s r none := by
  rintro ⟨-, ⟨i, hi, -⟩, -⟩
  cases hi

/-- Check 6 (R46). -/
theorem lineBusy_iff (s : State) (line : LineAddr) (earlier : List WaitEntry) :
    lineBusy s line earlier = false ↔ lineIsFree s line earlier := by
  simp [lineBusy, lineIsFree]

/-- Check 7 (R42). -/
theorem freeIdentity_eq_none {s : State} : freeIdentity s = none ↔ trackerFull s := by
  rw [freeIdentity, find?_finRange_eq_none]
  simp [trackerFull]

/-- The identity that dispatch takes (R48). -/
theorem freeIdentity_eq_some {s : State} {id : HostId} : freeIdentity s = some id ↔ lowestFree s id := by
  rw [freeIdentity, find?_finRange_eq_some]
  simp [lowestFree]

/-- The request passes the region unit's checks with this region index, and this is whether it needs a record. -/
theorem examine_eq_later {s : State} {r : Request} {region : Option RegionIndex} (earlier : List WaitEntry)
    (h : passesRegionUnit s r region) :
    ∃ needs, (needs = true ↔ needsNewRecord s r region) ∧ examine s r earlier = examineLater s r region needs earlier := by
  cases region with
  | none =>
    obtain ⟨h1, h2⟩ := h
    exact ⟨false, by simp [not_needsNewRecord_none], by simp only [examine, matchLine_eq_none.mpr h1, h2]⟩
  | some i =>
    obtain ⟨h1, h2, h3, h4⟩ := h
    have h3' : ¬((s.regions.active.get i).mode = .readOnly ∧ r.kind = .write) := by
      rintro ⟨ha, hb⟩
      have := h3 ha
      simp [hb] at this
    unfold maskAdmits at h2
    exact ⟨needsRecord s r i, needsRecord_iff s r i,
      by simp only [examine, matchLine_eq_some.mpr h1, h2, h3', h4, Bool.true_eq_false, if_false]⟩

/-- Checks 4 and 5 pass the request on (R44, R45). -/
theorem examineLater_of_passesEngine {s : State} {r : Request} {region : Option RegionIndex} {needs : Bool}
    (earlier : List WaitEntry) (hn : needs = true ↔ needsNewRecord s r region) (h : passesEngine s r region) :
    examineLater s r region needs earlier =
      if lineBusy s (requestLine r) earlier then .park .line region
      else
        match freeIdentity s with
        | none => .park .slot region
        | some id =>
          if needs = true ∧ Config.ringSize ≤ occupancy s.journal then
            match s.params.fullAction with
            | .wait => .park .jfull region
            | .refuse => .refuse .journalFull region
          else .dispatch id region needs := by
  have h1 : ¬(s.engine.state = .failed ∧ (findsLive s.journal (requestLine r) = true ∨ needs = true)) := by
    rintro ⟨he, hx⟩
    rw [passesEngine, he] at h
    rw [findsLive_iff, hn] at hx
    exact hx.elim h.1 h.2
  have h2 : ¬((s.engine.state = .drain ∨ s.engine.state = .restore) ∧
      (findsInSpan s (requestLine r) = true ∨ needs = true)) := by
    rintro ⟨he, hx⟩
    rw [findsInSpan_iff, hn] at hx
    rw [passesEngine] at h
    rcases he with he | he <;> rw [he] at h <;> exact hx.elim h.1 h.2
  unfold examineLater
  exact (if_neg h1).trans (if_neg h2)

/-- A refusal in the terms of the table of R42. -/
theorem examine_of_refusedBy {s : State} {r : Request} {earlier : List WaitEntry} {reason : Reason}
    {region : Option RegionIndex} (h : refusedBy s r earlier reason region) :
    examine s r earlier = .refuse reason region := by
  cases reason with
  | unmapped =>
    cases region with
    | none => simp only [examine, matchLine_eq_none.mpr h.1, h.2]
    | some _ => exact h.elim
  | notPermitted =>
    cases region with
    | none => exact h.elim
    | some i =>
      have h2 : (s.regions.active.get i).mask.getLsbD r.initiator.val = false := by simpa [maskAdmits] using h.2
      simp only [examine, matchLine_eq_some.mpr h.1, h2, if_true]
  | readOnly =>
    cases region with
    | none => exact h.elim
    | some i =>
      obtain ⟨h1, h2, h3⟩ := h
      unfold maskAdmits at h2
      have h3' : (s.regions.active.get i).mode = .readOnly ∧ r.kind = .write := by
        simp only [modeAdmits, Classical.not_imp] at h3
        refine ⟨h3.1, ?_⟩
        cases hk : r.kind
        · exact absurd hk h3.2
        · rfl
      simp only [examine, matchLine_eq_some.mpr h1, h2, h3', Bool.true_eq_false, if_false, and_self, if_true]
  | shut =>
    cases region with
    | none => exact h.elim
    | some i =>
      obtain ⟨h1, h2, h3, h4⟩ := h
      unfold maskAdmits at h2
      have h3' : ¬((s.regions.active.get i).mode = .readOnly ∧ r.kind = .write) := by
        rintro ⟨ha, hb⟩
        have := h3 ha
        simp [hb] at this
      simp only [examine, matchLine_eq_some.mpr h1, h2, h3', h4, Bool.true_eq_false, if_false]
  | faultLocked =>
    obtain ⟨h1, h2, h3⟩ := h
    obtain ⟨needs, hn, he⟩ := examine_eq_later earlier h1
    rw [he, examineLater, if_pos]
    exact ⟨h2, by rw [findsLive_iff, hn]; exact h3⟩
  | journalFull =>
    obtain ⟨h1, h2, h3, h4, h5, h6, h7⟩ := h
    obtain ⟨needs, hn, he⟩ := examine_eq_later earlier h1
    rw [he, examineLater_of_passesEngine earlier hn h2, (lineBusy_iff _ _ _).mpr h3]
    cases hf : freeIdentity s with
    | none => exact absurd (freeIdentity_eq_none.mp hf) h4
    | some id => simp [hn.mpr h5, Config.ringSize, h6, h7]
  | malformed | tagInUse | waitTimeout | reset | preReadFault | memFault => cases region <;> exact h.elim

/-- A parking in the terms of the table of R42. -/
theorem examine_of_parkedBy {s : State} {r : Request} {earlier : List WaitEntry} {reason : ParkReason}
    {region : Option RegionIndex} (h : parkedBy s r earlier reason region) :
    examine s r earlier = .park reason region := by
  cases reason with
  | hold =>
    cases region with
    | none => exact h.elim
    | some i =>
      obtain ⟨h1, h2, h3, h4⟩ := h
      unfold maskAdmits at h2
      have h3' : ¬((s.regions.active.get i).mode = .readOnly ∧ r.kind = .write) := by
        rintro ⟨ha, hb⟩
        have := h3 ha
        simp [hb] at this
      simp only [examine, matchLine_eq_some.mpr h1, h2, h3', h4, Bool.true_eq_false, if_false]
  | rollback =>
    obtain ⟨h1, h2, h3⟩ := h
    obtain ⟨needs, hn, he⟩ := examine_eq_later earlier h1
    rw [he, examineLater, if_neg, if_pos]
    · exact ⟨h2, by rw [findsInSpan_iff, hn]; exact h3⟩
    · rintro ⟨hf, -⟩
      rcases h2 with h2 | h2 <;> rw [h2] at hf <;> cases hf
  | line =>
    obtain ⟨h1, h2, h3⟩ := h
    obtain ⟨needs, hn, he⟩ := examine_eq_later earlier h1
    rw [he, examineLater_of_passesEngine earlier hn h2, if_pos]
    rw [← lineBusy_iff] at h3
    simpa using h3
  | slot =>
    obtain ⟨h1, h2, h3, h4⟩ := h
    obtain ⟨needs, hn, he⟩ := examine_eq_later earlier h1
    rw [he, examineLater_of_passesEngine earlier hn h2, (lineBusy_iff _ _ _).mpr h3, freeIdentity_eq_none.mpr h4]
    simp
  | jfull =>
    obtain ⟨h1, h2, h3, h4, h5, h6, h7⟩ := h
    obtain ⟨needs, hn, he⟩ := examine_eq_later earlier h1
    rw [he, examineLater_of_passesEngine earlier hn h2, (lineBusy_iff _ _ _).mpr h3]
    cases hf : freeIdentity s with
    | none => exact absurd (freeIdentity_eq_none.mp hf) h4
    | some id => simp [hn.mpr h5, Config.ringSize, h6, h7]

/-- A dispatch in the terms of the table of R42. -/
theorem examine_of_dispatchedBy {s : State} {r : Request} {earlier : List WaitEntry} {id : HostId}
    {region : Option RegionIndex} (h : dispatchedBy s r earlier id region) :
    ∃ needs, (needs = true ↔ needsNewRecord s r region) ∧ examine s r earlier = .dispatch id region needs := by
  obtain ⟨h1, h2, h3, h4, h5⟩ := h
  obtain ⟨needs, hn, he⟩ := examine_eq_later earlier h1
  refine ⟨needs, hn, ?_⟩
  rw [he, examineLater_of_passesEngine earlier hn h2, (lineBusy_iff _ _ _).mpr h3, freeIdentity_eq_some.mpr h4]
  have : ¬(needs = true ∧ Config.ringSize ≤ occupancy s.journal) := by
    rintro ⟨ha, hb⟩
    have := h5 (hn.mp ha)
    simp only [Config.ringSize] at hb
    omega
  simp [this]

/-- The intake head is examined when it is next in the terms of Safety.lean (R40, R41). -/
theorem nextSubject_head {s : State} {r : Request} {rest : List IntakeEntry} (h : headIsNext s r rest) :
    nextSubject s = some .head := by
  obtain ⟨⟨h1, h2, h3⟩, h4, h5, h6⟩ := h
  have hn : (s.admission.waitList.findIdx? fun e => e.released && e.answering.isNone) = none := by
    rw [List.findIdx?_eq_none_iff]
    intro x hx
    by_cases hr : x.released = true
    · have := h4 x hx hr
      cases hh : x.answering <;> simp_all
    · simp [hr]
  have he : headEligible s = true := by
    simp only [headEligible, h5, Bool.and_eq_true]
    refine ⟨by simp, ?_⟩
    cases hh : s.admission.held with
    | none => simp
    | some x => simpa using h6 x hh
  simp [nextSubject, h1, h2, h3, quiescing, hn, he]

/-- The earliest released wait-list entry is examined first (R41). -/
theorem nextSubject_waiting {s : State} {k : Nat} {e : WaitEntry} (h : releasedIsNext s k e) :
    nextSubject s = some (.waiting k) := by
  obtain ⟨⟨h1, h2, h3⟩, h4, h5, h6, h7⟩ := h
  have hk : (s.admission.waitList.findIdx? fun e => e.released && e.answering.isNone) = some k := by
    rw [List.findIdx?_eq_some_iff_getElem]
    obtain ⟨hlt, he⟩ := List.getElem?_eq_some_iff.mp h4
    refine ⟨hlt, by simp [he, h5, h6], fun j hj => ?_⟩
    have := h7 j hj _ (List.getElem?_eq_getElem (by omega))
    cases hh : (s.admission.waitList[j]).answering <;> simp_all
  simp [nextSubject, h1, h2, h3, quiescing, hk]

end Sys2Proof.Machine
end

