-- ==== Sys2Proof/Laws/Link.lean ====
section
/-!
SUPPORT. What the bits of a select period are to the controller and to SDO: which periods are fetch periods (R159), the bits a
fetch carries (R167), and SDO's impedance (R158, R169).
-/

namespace Sys2Proof.Machine

/-! ## Fetch periods -/

/-- The bits of a byte are the bits it was made of (R158). -/
@[simp] theorem bitsOfByte_byteOfBits (b7 b6 b5 b4 b3 b2 b1 b0 : Bool) :
    bitsOfByte (byteOfBits b7 b6 b5 b4 b3 b2 b1 b0) = [b7, b6, b5, b4, b3, b2, b1, b0] := by
  revert b7 b6 b5 b4 b3 b2 b1 b0
  decide +kernel

/-- A frame is never a fetch (R159, R160). -/
theorem readFrame_ne_fetch (bytes : List Byte) (n : Nat) : readFrame bytes ≠ .fetch n := by
  unfold readFrame
  intro h
  split at h
  · split at h
    · cases h
    · split at h
      · cases h
      · split at h <;> cases h
  · cases h

/-- A fetch period begins with the fetch marker (R159). -/
theorem marker_of_readPeriod_fetch {bits : List Bool} {n : Nat} (h : readPeriod bits = .fetch n) :
    bits.take 8 = bitsOfByte fetchMarker := by
  unfold readPeriod at h
  match bits with
  | b7 :: b6 :: b5 :: b4 :: b3 :: b2 :: b1 :: b0 :: rest =>
    simp only [bytesOfBits] at h
    split at h
    · exact absurd h (readFrame_ne_fetch _ _)
    · split at h
      · rename_i hm
        simp [← hm]
      · cases h
  | [] | [_] | [_, _] | [_, _, _] | [_, _, _, _] | [_, _, _, _, _] | [_, _, _, _, _, _] | [_, _, _, _, _, _, _] =>
    simp [bytesOfBits] at h

/-- A period that begins with the fetch marker is a fetch period with every later bit clocked in it (R159, R167). -/
theorem readPeriod_fetchMarker (after : List Bool) : readPeriod (bitsOfByte fetchMarker ++ after) = .fetch after.length := by
  have h : bitsOfByte fetchMarker = [false, false, true, true, true, false, true, false] := by decide
  simp only [h, List.cons_append, List.nil_append, readPeriod, bytesOfBits]
  rw [if_neg (by decide), if_pos (by decide)]
  simp

/-- A fetch period shifts out one bit for each bit clocked (R167). -/
@[simp] theorem shiftedOut_length (r : Option LinkResponse) (clocked : Nat) : (shiftedOut r clocked).length = clocked := by
  simp [shiftedOut]

/-- Each bit shifted out is the fetch-response's at that place (R167). -/
theorem shiftedOut_getElem? (r : Option LinkResponse) {clocked i : Nat} (h : i < clocked) :
    (shiftedOut r clocked)[i]? = some (fetchBit r i) := by simp [shiftedOut, h]

/-! ## SDO -/

/-- SDO is at high impedance while SSELn is high (R158). -/
@[simp] theorem sdo_high (s : State) : sdo s .high = .highImpedance := rfl

/-- SDO is at high impedance while PORn is low, whatever SSELn does (R169). -/
theorem sdo_of_not_porn {s : State} (h : s.porn = false) (line : Select) : sdo s line = .highImpedance := by
  cases line <;> simp [sdo, h]

/-- SDO is driven while SSELn is low and PORn high (R158). -/
theorem sdo_low {s : State} (h : s.porn = true) (start : PeriodStart) (sampled : List Bool) (fallen : Bool) :
    sdo s (.low start sampled fallen) = .driven (sdoLevel s start sampled fallen) := by simp [sdo, h]

/-- Out of a fetch period that the link takes SDO is driven low (R159, R169, R174). -/
theorem sdoLevel_of_not_fetching {s : State} {start : PeriodStart} {sampled : List Bool} (fallen : Bool)
    (h : sampled.take 8 ≠ bitsOfByte fetchMarker ∨ linkListens start s = false) : sdoLevel s start sampled fallen = false := by
  unfold sdoLevel
  split
  · rename_i hf
    rcases h with h | h
    · exact absurd (marker_of_readPeriod_fetch hf) h
    · simp [h]
  all_goals rfl

end Sys2Proof.Machine
end

