-- ==== Sys2Proof/Laws/Payloads.lean ====
section
/-!
SUPPORT. The multi-byte fields of payloads in the terms of Safety.lean (R180), and what a WRITE-PARAM frame does (R189).
-/

namespace Sys2Proof.Machine

/-- The bytes of a 16-bit value (R180). -/
theorem bytes16_eq (v : BitVec 16) : bytes16 v = be16 v.toNat := by
  simp only [bytes16, be16]
  congr 1
  apply BitVec.eq_of_toNat_eq
  simp [BitVec.extractLsb'_toNat, Nat.shiftRight_eq_div_pow]

/-- Only the value modulo 65536 shows in two bytes. -/
theorem be16_mod (n : Nat) : be16 (n % 65536) = be16 n := by
  simp only [be16]
  congr 1
  · apply BitVec.eq_of_toNat_eq
    simp
    omega
  · congr 1
    apply BitVec.eq_of_toNat_eq
    simp

/-- The bytes of a number as a 16-bit value. -/
theorem bytes16_ofNat (n : Nat) : bytes16 (BitVec.ofNat 16 n) = be16 n := by
  rw [bytes16_eq, BitVec.toNat_ofNat]
  exact be16_mod n

/-- The bytes of a mask of event flags (R180). -/
theorem flagBytes_eq (m : BitVec 9) : flagBytes m = be16 m.toNat := by
  rw [flagBytes, bytes16_eq]
  simp [be16_mod]

/-- The bytes of a 32-bit value (R180). -/
theorem bytes32_eq (v : BitVec 32) : bytes32 v = be32 v.toNat := by
  simp only [bytes32, be32, be16, List.cons_append, List.nil_append]
  congr 1
  · apply BitVec.eq_of_toNat_eq
    simp [BitVec.extractLsb'_toNat, Nat.shiftRight_eq_div_pow]
    try omega
  congr 1
  · apply BitVec.eq_of_toNat_eq
    simp [BitVec.extractLsb'_toNat, Nat.shiftRight_eq_div_pow]
    try omega
  congr 1
  · apply BitVec.eq_of_toNat_eq
    simp [BitVec.extractLsb'_toNat, Nat.shiftRight_eq_div_pow]
    try omega

/-- The value of a two-byte field (R180). -/
theorem word16_toNat (hi lo : Byte) : (word16 hi lo).toNat = 256 * hi.toNat + lo.toNat := by
  have h1 : (word16 hi lo).toNat = hi.toNat <<< 8 ||| lo.toNat := BitVec.toNat_append hi lo
  rw [h1, ← Nat.shiftLeft_add_eq_or_of_lt lo.isLt hi.toNat, Nat.shiftLeft_eq]
  omega

/-- A WRITE-PARAM frame of its own row: a value within the range is stored and answered, any other is BADARG (R189). -/
theorem writeParam_of_receives {p : Param} {store : Nat → State → State} {f : Frame} {s : State} {identifier hi lo : Byte}
    (h : Receives f s) (hp : f.payload = [identifier, hi, lo]) (hid : paramOfByte identifier = some p) :
    writeParam p store f s =
      if 256 * hi.toNat + lo.toNat ≤ paramMax p then
        { store (256 * hi.toNat + lo.toNat) s with
          link := answeredLink f .done f.payload (store (256 * hi.toNat + lo.toNat) s).link }
      else { s with link := answeredLink f .badArg [] s.link } := by
  have hp0 : payloadByte f 0 = identifier := by simp [payloadByte, hp]
  have hp1 : (payload16 f 1).toNat = 256 * hi.toNat + lo.toNat := by
    simp only [payload16, word16_toNat, payloadByte, hp]
    rfl
  unfold writeParam
  rw [if_neg (by simp [namesAnother, hp0, hid]), execCommand_of_receives (n := 3) h (by rw [hp]; rfl) (by simp) (by simp)]
  simp only [writeParamReply, hp0, hid, hp1, paramPayload]
  by_cases hv : 256 * hi.toNat + lo.toNat ≤ paramMax p
  · have hv' : ¬paramMax p < 256 * hi.toNat + lo.toNat := by omega
    have hb : bytes16 (BitVec.ofNat 16 (256 * hi.toNat + lo.toNat)) = [hi, lo] := by
      rw [bytes16_ofNat, be16]
      have h1 := lo.isLt
      have h2 := hi.isLt
      congr 1
      · apply BitVec.eq_of_toNat_eq
        simp
        omega
      · congr 1
        apply BitVec.eq_of_toNat_eq
        simp
        omega
    simp [hv', hv, accept, hb, hp]
  · have hv' : paramMax p < 256 * hi.toNat + lo.toNat := by omega
    simp [hv', hv, refuse]

/-- A WRITE-PARAM frame whose identifier names no parameter is refused BADARG, whichever row it is given to (R189). -/
theorem writeParam_of_unknown {p : Param} {store : Nat → State → State} {f : Frame} {s : State} {identifier hi lo : Byte}
    (h : Receives f s) (hp : f.payload = [identifier, hi, lo]) (hid : paramOfByte identifier = none) :
    writeParam p store f s = { s with link := answeredLink f .badArg [] s.link } := by
  have hp0 : payloadByte f 0 = identifier := by simp [payloadByte, hp]
  unfold writeParam
  rw [if_neg (by simp [namesAnother, hp0, hid]), execCommand_of_receives (n := 3) h (by rw [hp]; rfl) (by simp) (by simp)]
  simp [writeParamReply, hp0, hid, refuse]

end Sys2Proof.Machine
end

