-- ==== Sys2Proof/Laws/Restore.lean ====
section
/-!
SUPPORT. What the journal's and the restore engine's shared operations can do: reservation, head advance, the giving up of
epochs, the run of VOID records, the continuation of a restore and the acceptance of a rollback.
-/

namespace Sys2Proof.Machine

/-! ## The journal -/

/-- A reservation is what R68, R82 and R91 say. -/
theorem reserveRecord_eq (r : Request) (i : RegionIndex) (s : State) :
    reserveRecord r i s = withReservation (newRecord s r i) s := by
  unfold reserveRecord withReservation flagsAfterReservation newRecord setFlag
  by_cases h : occupancy s.journal + 1 = s.params.jhighLevel
  · have h' : s.params.jhighLevel ≠ 0 ∧ occupancy s.journal < s.params.jhighLevel ∧
        s.params.jhighLevel ≤ occupancy s.journal + 1 := by omega
    simp [h, h']
    rfl
  · have h' : ¬(s.params.jhighLevel ≠ 0 ∧ occupancy s.journal < s.params.jhighLevel ∧
        s.params.jhighLevel ≤ occupancy s.journal + 1) := by omega
    simp only [h, h', if_false]

/-- Head advance passes exactly the FREED positions at the head (R75). -/
theorem advanceHead_eq {j : Journal} {ring freed kept : List (Option Record)} (h : ring = freed ++ kept)
    (hf : ∀ slot ∈ freed, slot = none) (hk : kept.head? ≠ some none) :
    advanceHead { j with ring := ring } = { j with head := (j.head + freed.length) % 1024, ring := kept } := by
  subst h
  have hp : ∀ x ∈ freed, Option.isNone x = true := fun x hx => by simp [hf x hx]
  have h1 : (freed ++ kept).takeWhile (Option.isNone (α := Record)) = freed := by
    rw [List.takeWhile_append_of_pos hp]
    cases kept with
    | nil => simp
    | cons x xs => cases x <;> simp_all
  have h2 : (freed ++ kept).dropWhile (Option.isNone (α := Record)) = kept := by
    rw [List.dropWhile_append_of_pos hp]
    cases kept with
    | nil => simp
    | cons x xs => cases x <;> simp_all
  simp [advanceHead, h1, h2, Config.ringSize]

/-- After a head advance a live record stands at the head, or none (R75). -/
theorem advanceHead_live (j : Journal) : (advanceHead j).ring.head? ≠ some none := by
  simp only [advanceHead]
  intro h
  have := List.head?_dropWhile_not Option.isNone j.ring
  rw [h] at this
  simp at this

/-- A release made twice is the release made once (R53). -/
theorem releasedWhere_idem (p : ParkReason → Option RegionIndex → LineAddr → Bool) (s : State) :
    releasedWhere p { s with admission := releasedWhere p s } = releasedWhere p s := by
  unfold releasedWhere
  simp only [List.map_map]
  congr 1
  · apply List.map_congr_left
    intro e _
    simp only [Function.comp]
    split <;> simp_all
  · cases s.hport.intake with
    | nil => rfl
    | cons _ _ =>
      cases s.admission.held with
      | none => rfl
      | some h =>
        simp only [Option.map_some, Option.some.injEq]
        split <;> simp_all

/-- The giving up of epochs is what R75, R78 and R79 say, for any test `P` that agrees with the set on the live records. -/
theorem abandonEpochs_eq {epochs : List Epoch} {s : State} {freed kept : List (Option Record)} (P : Record → Prop)
    [DecidablePred P] (hP : ∀ x, some x ∈ s.journal.ring → (x.epoch ∈ epochs ↔ P x))
    (h : (s.journal.ring.map fun slot => slot.bind fun x => if P x then abandonedRecord x else some x) = freed ++ kept)
    (hf : ∀ slot ∈ freed, slot = none) (hk : kept.head? ≠ some none) :
    abandonEpochs epochs s =
      { s with
        journal := { s.journal with head := (s.journal.head + freed.length) % 1024, ring := kept }
        admission :=
          if s.journal.ring.length = 1024 ∧ kept.length < 1024 then releasedWhere (fun reason _ _ => reason == .jfull) s
          else s.admission } := by
  have hr : (s.journal.ring.map fun slot => slot.bind fun r => if r.epoch ∈ epochs then abandonedRecord r else some r) =
      freed ++ kept := by
    rw [← h]
    apply List.map_congr_left
    intro slot hs
    cases slot with
    | none => rfl
    | some x => simp only [Option.bind_some, hP x hs]
  unfold abandonEpochs
  rw [hr, advanceHead_eq rfl hf hk, signalFall_eq]
  rfl

/-! ## The restore engine -/

/-- The run of VOID records at the tail of `kept ++ voids` is `voids` when that is all of the span, or a VALID record stands
below it (R118). -/
theorem voidRun_eq {kept voids : List (Option Record)} {d : Nat} (hv : ∀ slot ∈ voids, ∃ x, slot = some x ∧ x.state = .void)
    (h : d = voids.length ∨ voids.length < d ∧ ∃ x pre, kept.getLast? = some (some x) ∧ x.state = .valid pre) :
    voidRun (kept ++ voids) d = voids.length := by
  have hv' : ∀ slot ∈ voids.reverse, (slot.any fun r => decide (r.state = .void)) = true := by
    intro slot hs
    obtain ⟨x, rfl, hx⟩ := hv slot (by simpa using hs)
    simp [hx]
  unfold voidRun
  rw [List.reverse_append]
  rcases h with rfl | ⟨hlt, x, pre, hx, hst⟩
  · rw [List.take_append_of_le_length (by simp), List.take_of_length_le (by simp), List.takeWhile_eq_self_iff.mpr hv']
    simp
  · rw [List.take_append, List.take_of_length_le (by simp; omega), List.takeWhile_append_of_pos hv']
    have hk : kept.reverse = some x :: kept.reverse.tail := by
      have hh := List.head?_reverse (l := kept)
      rw [hx] at hh
      cases hc : kept.reverse with
      | nil => simp [hc] at hh
      | cons a b =>
        simp only [hc, List.head?_cons, Option.some.injEq] at hh
        simp [hh]
    obtain ⟨n, hn⟩ : ∃ n, d - voids.reverse.length = n + 1 := ⟨d - voids.length - 1, by simp; omega⟩
    rw [hk, hn]
    simp [hst]

/-- The run of VOID records is within the span (R118). -/
theorem voidRun_le (ring : List (Option Record)) (d : Nat) : voidRun ring d ≤ d ∧ voidRun ring d ≤ ring.length := by
  unfold voidRun
  have h := (List.takeWhile_sublist (l := ring.reverse.take d) fun slot => slot.any fun r => decide (r.state = .void)).length_le
  simp only [List.length_take, List.length_reverse] at h
  omega

/-- Freeing in two parts is freeing at once (R76, R78, R91). -/
theorem drawnBack_drawnBack {k1 k2 : List (Option Record)} {a b : Nat} {s : State} (h1 : k1.length + a = s.journal.ring.length)
    (h2 : k2.length + b = k1.length) (ha : 0 < a) (hle : s.journal.ring.length ≤ 1024) :
    drawnBack k2 b (drawnBack k1 a s) = drawnBack k2 (a + b) s := by
  have hm : ((fun c : Checkpoint => { c with distance := c.distance - b }) ∘
      fun c : Checkpoint => { c with distance := c.distance - a }) =
      (fun c : Checkpoint => { c with distance := c.distance - (a + b) }) := by
    funext c
    simp [Nat.sub_sub]
  unfold drawnBack
  simp only [List.map_map, hm]
  congr 1
  by_cases h5 : s.journal.ring.length = 1024
  · have h6 : k1.length < 1024 := by omega
    have h7 : k2.length < 1024 := by omega
    have h8 : ¬k1.length = 1024 := by omega
    simp [h5, h6, h7, h8]
  · have h7 : ¬(k1.length = 1024 ∧ k2.length < 1024) := by omega
    simp [h5, h7]

/-- The engine in RESTORE goes on as R118, R119 and R123 say: it completes when only VOID records are left of the span, and
else hands out the RESTORE of the VALID record below them. -/
theorem continueRestore_eq {s : State} {target : Checkpoint} {kept voids : List (Option Record)}
    (ht : s.stack.checkpoints.getLast? = some target) (hr : s.journal.ring = kept ++ voids)
    (hv : ∀ slot ∈ voids, ∃ x, slot = some x ∧ x.state = .void) :
    (target.distance = voids.length → continueRestore s = completes (drawnBack kept voids.length s)) ∧
      ∀ x pre, voids.length < target.distance → kept.getLast? = some (some x) → x.state = .valid pre →
        s.engine.state = .restore → continueRestore s = restoreHanded x.line pre (drawnBack kept voids.length s) := by
  have hk : (kept ++ voids).take ((kept ++ voids).length - voids.length) = kept := by simp
  refine ⟨fun h => ?_, fun x pre h1 h2 h3 h4 => ?_⟩
  · unfold continueRestore
    simp only [ht, hr, voidRun_eq hv (.inl h)]
    simp only [h, if_true, freeAtTail_eq, completeRestore_eq, hr, hk]
  · unfold continueRestore
    simp only [ht, hr, voidRun_eq hv (.inr ⟨h1, x, pre, h2, h3⟩)]
    rw [if_neg (by omega), freeAtTail_eq, hr, hk]
    unfold handRestore
    have hring : (drawnBack kept voids.length s).journal.ring = kept := rfl
    simp only [hring, h2, h3]
    unfold restoreHanded
    simp only [Config.ringSize, drawnBack]
    rw [← h4]

/-- The drain test goes no further than DRAIN while the condition is false; when it is true the engine frees the run of VOID
records before the tail, and completes or hands out the first RESTORE (R115, R118, R119, R123). -/
theorem drainTest_eq {s : State} {target : Checkpoint} (hd : s.engine.state = .drain) (hs : s.engine.stopping = false)
    (ht : s.stack.checkpoints.getLast? = some target) :
    (drainHolds s = false → drainTest s = s) ∧
      ∀ kept voids : List (Option Record), drainHolds s = true → s.journal.ring = kept ++ voids →
        (∀ slot ∈ voids, ∃ x, slot = some x ∧ x.state = .void) →
        (target.distance = voids.length → drainTest s = completes (drawnBack kept voids.length s)) ∧
          ∀ x pre, voids.length < target.distance → kept.getLast? = some (some x) → x.state = .valid pre →
            drainTest s = restoreHanded x.line pre (drawnBack kept voids.length s) := by
  refine ⟨fun h => by simp [drainTest, h], fun kept voids h hr hv => ?_⟩
  have hc := continueRestore_eq (s := { s with engine := { s.engine with state := .restore } }) ht hr hv
  have he : drainTest s = continueRestore { s with engine := { s.engine with state := .restore } } := by
    rw [drainTest, if_pos ⟨hd, hs, h⟩]
  exact ⟨fun a => he.trans (hc.1 a), fun x pre a b c => he.trans (hc.2 x pre a b c rfl)⟩

/-- The suspension of the timer at an acceptance (R112, R142). -/
theorem suspendTimer_eq (s : State) :
    suspendTimer s =
      { s with
        timer := if s.params.dlEnable then { s.timer with state := .suspended, elapsed := 0, divider := 0 } else s.timer } := by
  unfold suspendTimer
  split <;> rfl

/-- The acceptance of a rollback: steps 1 to 4 of R112, and the drain test. -/
theorem acceptRollback_eq {k : Nat} {s : State} {target : Checkpoint} (h : s.stack.checkpoints[k]? = some target) :
    acceptRollback k s = drainTest (rollbackEntered k target s) := by
  unfold acceptRollback
  simp only [h, suspendTimer_eq]
  rfl

/-- After the acceptance the target is the newest checkpoint (R105). -/
theorem rollbackEntered_newest {k : Nat} {s : State} {target : Checkpoint} (h : s.stack.checkpoints[k]? = some target) :
    (rollbackEntered k target s).stack.checkpoints.getLast? = some target := by
  obtain ⟨hk, -⟩ := List.getElem?_eq_some_iff.mp h
  simp only [rollbackEntered, List.getLast?_eq_getElem?, List.length_take]
  rw [min_eq_left (by omega)]
  simp [h]

end Sys2Proof.Machine
end

