-- ==== Sys2Proof/Tests/Slice0.lean ====
section
/-!
SUPPORT. Tests by name: the refusals of WellFormed, the frames that the manual writes out, single events of each block, and
for each statement with premises a witness that meets them.
-/

-- One theorem at a time: the kernel evaluations below would otherwise wait for one another in as many threads.
set_option Elab.async false

namespace Sys2Proof.Machine.Tests

/-! ## States and terms -/

/-- A powered part after its intervals, holding nothing. -/
def quietPart : State :=
  { State.reset with mport := { presented := none, quietSince := none }, journal := { readiness := .ready, head := 0, ring := [] } }

/-- A request of initiator 0 for words 0 and 1 of a line. -/
def request (kind : RequestKind) (tag : Tag) (line : LineAddr) : Request :=
  { kind := kind, initiator := 0, tag := tag, address := line ++ (0#3), count := 2, mask := 0xFF
    data := Vector.replicate 8 0xA5A5A5A5#32 }

/-- A journaled region over lines 0 to 0x3F at index 0, open to every initiator. -/
def journaledEntry : RegionEntry := ⟨true, 0, 0x3F, .journal, 0xFF⟩

/-- The tables with that region alone. -/
def oneRegion : Regions :=
  { active := (Vector.replicate 12 RegionEntry.invalid).set 0 journaledEntry
    staged := (Vector.replicate 12 RegionEntry.invalid).set 0 journaledEntry
    dirty := false
    software := Vector.replicate 12 .opened }

/-- A request in each place of custody: a JWRITE before its PRE-READ's answer, a write parked LINE behind it, and a write at the
intake head. -/
def traffic : State :=
  { quietPart with
    hport :=
      { taking := none, intake := [⟨request .write 0 0x20, none⟩], outstanding := [(0, 0), (0, 1), (0, 2)], offered := none }
    regions := oneRegion
    admission :=
      { waitList := [⟨request .write 1 0x10, .line, some 0, 0, some 1024, false, none⟩], held := none, stalledOn := none }
    tracker := { hosts := [⟨0, .jwrite 0 1, .pre, .outstanding, request .write 2 0x10, some 0⟩], restore := none }
    journal := { readiness := .ready, head := 0, ring := [some ⟨.reserved false, 1, 0x10, 0, 0⟩] }
    stack := { checkpoints := [⟨1, 0, 1⟩], nextEpoch := 2 }
    timer := { state := .running, elapsed := 5, divider := 7, period := 64 }
    params := { State.reset.params with dlEnable := true } }

/-- The write at the intake head. -/
def headWrite : Request := request .write 0 0x20

/-- A pre-image. -/
def lanes : LineData := Vector.replicate 8 0x11111111#32

/-- A rollback in RESTORE whose RESTORE is outstanding: two VALID records stand after the target's mark, with a VOID one
between them. -/
def restoring : State :=
  { quietPart with
    regions := oneRegion
    tracker := { hosts := [], restore := some ⟨0x12, 2, lanes, .outstanding⟩ }
    journal :=
      { readiness := .ready, head := 0
        ring := [some ⟨.valid lanes, 1, 0x10, 0, 0⟩, some ⟨.void, 1, 0x11, 0, 0⟩, some ⟨.valid lanes, 1, 0x12, 0, 0⟩] }
    stack := { checkpoints := [⟨1, 0, 3⟩], nextEpoch := 2 }
    engine := { state := .restore, span := some ⟨0, 3⟩, retry := false, stopping := false, lostrb := false }
    timer := { state := .suspended, elapsed := 0, divider := 0, period := 64 }
    params := { State.reset.params with dlEnable := true } }

/-- A failed rollback: the record at which it stopped is VALID. -/
def failed : State :=
  { restoring with
    tracker := { hosts := [], restore := none }
    engine := { state := .failed, span := none, retry := false, stopping := false, lostrb := false } }

/-- A live frame with the toggle that the link expects after reset. -/
def frame (payload : List Byte) : Frame := ⟨.live, false, payload⟩

/-! ## WellFormed refuses what is not an event of its row -/

theorem test_wf_frame_too_long : (Instr.identify (frame (List.replicate 41 0x00))).wellFormed = false := by decide
theorem test_wf_frame_of_40 : (Instr.identify (frame (List.replicate 40 0x00))).wellFormed = true := by decide
theorem test_wf_unknown_with_known_code : (Instr.unknownCommand 0x20#7 (frame [])).wellFormed = false := by decide
theorem test_wf_unknown_code : (Instr.unknownCommand 0x07#7 (frame [])).wellFormed = true := by decide
theorem test_wf_write_names_another : (Instr.writeDlEnable (frame [0x06, 0x00, 0x01])).wellFormed = false := by decide
theorem test_wf_write_names_own : (Instr.writeDlEnable (frame [0x05, 0x00, 0x01])).wellFormed = true := by decide
theorem test_wf_error_with_right_frame :
    (Instr.frameError .live (commandPeriodBits false 0x02#7 [])).wellFormed = false := by decide +kernel

/-! ## Frames the manual writes out (10.5, R191, R163) -/

theorem test_frame_write_param :
    frameBytes true 0x09#7 [0x04, 0x00, 0x08] = [0x89, 0x03, 0x04, 0x00, 0x08, 0x7C] := by decide +kernel
theorem test_frame_read_status : frameBytes false 0x02#7 [] = [0x02, 0x00, 0xFD] := by decide +kernel
theorem test_period_reads_frame :
    readPeriod (bitsOfBytes [0xC5, 0x89, 0x03, 0x04, 0x00, 0x08, 0x7C]) = .frame true 0x09#7 [0x04, 0x00, 0x08] := by
  decide +kernel
theorem test_period_wrong_crc : readPeriod (bitsOfBytes [0xC5, 0x89, 0x03, 0x04, 0x00, 0x08, 0x7D]) = .error := by
  decide +kernel
theorem test_period_short_frame : readPeriod (bitsOfBytes [0xC5, 0x89, 0x03, 0x04]) = .error := by decide +kernel
theorem test_period_no_marker : readPeriod (bitsOfBytes [0x00, 0x89]) = .ignored := by decide +kernel
theorem test_period_spells_write :
    periodCommand true .live (bitsOfBytes [0xC5, 0x89, 0x03, 0x04, 0x00, 0x08, 0x7C]) =
      some (.writeWaitLimit ⟨.live, true, [0x04, 0x00, 0x08]⟩) := by decide +kernel

/-! ## Single events -/

/-- The state after a command. -/
def after (c : Instr) (s : State) : State :=
  match exec c s with
  | .next t => t
  | .fault _ | .refused _ => s

/-- The count 0 is MALFORMED, whatever the pair (R3). -/
theorem test_take_malformed :
    (after (.takeRequest { headWrite with count := 0 }) traffic).hport.taking.map (fun x => x.answer.result) =
      some (.failed .malformed) := by decide +kernel

/-- The pair (0, 0) is outstanding (R3). -/
theorem test_take_tag_in_use :
    (after (.takeRequest headWrite) traffic).hport.taking.map (fun x => x.answer.result) = some (.failed .tagInUse) := by
  decide +kernel

/-- A request that ends at the line's last word is taken, one that would cross it is not (R3). -/
theorem test_take_crossing :
    (after (.takeRequest { headWrite with address := (0x20#27) ++ (6#3) }) quietPart).hport.intake.length = 1 ∧
      (after (.takeRequest { headWrite with address := (0x20#27) ++ (7#3) }) quietPart).hport.intake.length = 0 := by
  decide +kernel

/-- The journaled write at the head reserves the record at the tail and takes identity 1 (R48, R68). -/
theorem test_examination_reserves :
    (after .examination traffic).tracker.hosts.map (fun e => (e.id, e.kind)) =
        [(0, .jwrite 0 1), (1, .jwrite 1 1)] ∧
      (after .examination traffic).stack.checkpoints = [⟨1, 0, 2⟩] := by decide +kernel

/-- A write to the line of a host entry parks LINE, with the expiry that WAIT_LIMIT 11 gives (R46, R50, R55). -/
theorem test_examination_parks :
    (after .examination
        { traffic with hport := { traffic.hport with intake := [⟨request .write 0 0x10, none⟩] } }).admission.waitList.map
        (fun e => (e.reason, e.expiry)) =
      [(.line, some 1024), (.line, some 1024)] := by decide +kernel

/-- The wait-list entry expires at 1024 µs and not before (R56). -/
theorem test_wait_expiry :
    (after (.waitExpiry 0) { traffic with now := 1023 }).events.flags = 0 ∧
      (after (.waitExpiry 0) { traffic with now := 1024 }).events.flags = 0x004 := by decide +kernel

/-- An OK answer to the PRE-READ makes the record VALID and readies the FWD-WRITE (R62, R70). -/
theorem test_pre_read_answer :
    (after (.answer 0 (.ok lanes)) traffic).journal.ring = [some ⟨.valid lanes, 1, 0x10, 0, 0⟩] ∧
      (arbiterChoice (after (.answer 0 (.ok lanes)) traffic)).map Operation.kind = some .fwdWrite := by decide +kernel

/-- An OK answer to a RESTORE frees its record and the VOID one below it, and the RESTORE of the next is ready (R118 to R120). -/
theorem test_restore_goes_on :
    (after (.answer 8 (.ok lanes)) restoring).journal.ring.length = 1 ∧
      (after (.answer 8 (.ok lanes)) restoring).tracker.restore = some ⟨0x10, 0, lanes, .toIssue⟩ := by decide +kernel

/-- Two ERROR answers send the engine to FAILED with RBFAIL set (R121, R122). -/
theorem test_restore_fails :
    (after (.answer 8 .error) { restoring with engine := { restoring.engine with retry := true } }).engine.state = .failed ∧
      (after (.answer 8 .error) { restoring with engine := { restoring.engine with retry := true } }).events.flags = 0x100 := by
  decide +kernel

/-- MARK answers its epoch and takes the tail (R96, R183). -/
theorem test_mark :
    (after (.mark (frame [])) traffic).stack = { checkpoints := [⟨1, 0, 1⟩, ⟨2, 1, 0⟩], nextEpoch := 3 } ∧
      (after (.mark (frame [])) traffic).link.fetchResponse = some ⟨false, .done, [0x00, 0x02]⟩ := by decide +kernel

/-- The example of R93: with the counter at 65535 and epochs 1 and 3 open, the counter then holds 2. -/
theorem test_epoch_wraps :
    (pushCheckpoint { quietPart with stack := { checkpoints := [⟨1, 0, 0⟩, ⟨3, 0, 0⟩], nextEpoch := 65535 } }).stack.nextEpoch =
      2 := by decide +kernel

/-- RELEASE(1) of the only checkpoint orphans its RESERVED record and leaves it at the head (R79, R100). -/
theorem test_release_orphans :
    (after (.release (frame [0x01])) traffic).journal.ring = [some ⟨.reserved true, 1, 0x10, 0, 0⟩] ∧
      (after (.release (frame [0x01])) traffic).timer.state = .off := by decide +kernel

/-- ROLLBACK drains while a host entry is for a line of the span (R112, R115). -/
theorem test_rollback_drains :
    (after (.rollback (frame [0x00, 0x01])) traffic).engine.state = .drain ∧
      (after (.rollback (frame [0x00, 0x01])) traffic).timer.state = .suspended := by decide +kernel

/-- DISCARD in FAILED empties the journal (R104). -/
theorem test_discard_failed :
    (after (.discard (frame [])) failed).journal = { readiness := .ready, head := 3, ring := [] } ∧
      (after (.discard (frame [])) failed).engine.state = .idle := by decide +kernel

/-- A repeated MARK opens no second checkpoint (R166). -/
theorem test_repeat :
    (after (.repeatFrame 0x20#7 (frame [])) (after (.mark (frame [])) quietPart)).stack =
      (after (.mark (frame [])) quietPart).stack := by decide +kernel

/-- A fetch through the CRC empties the fetch-response, one bit less does not (R167). -/
theorem test_fetch :
    (after (.fetchPeriod .live 32) quietPart).link.fetchResponse = none ∧
      (after (.fetchPeriod .live 31) quietPart).link.fetchResponse.isSome = true ∧
      (after (.fetchPeriod .live 32) quietPart).link.shifted = bitsOfBytes [0xB0, 0x01, 0x00, crc8 [0xB0, 0x01, 0x00]] := by
  decide +kernel

/-- SDO in a fetch of RESETDONE, whose first byte is 0xB0: 1 after the falling edge that follows the marker, then 0; low
through the marker and in a command period; at high impedance with SSELn high or PORn low (R158, R159, R167, R169). -/
theorem test_sdo :
    sdo quietPart (.low .live (bitsOfByte 0x3A#8) false) = .driven false ∧
      sdo quietPart (.low .live (bitsOfByte 0x3A#8) true) = .driven true ∧
      sdo quietPart (.low .live (bitsOfByte 0x3A#8 ++ [false]) true) = .driven false ∧
      sdo quietPart (.low .live (bitsOfByte 0xC5#8) true) = .driven false ∧
      sdo quietPart .high = .highImpedance ∧
      sdo (after .pornAssert quietPart) (.low .live (bitsOfByte 0x3A#8) true) = .highImpedance := by decide +kernel

/-- PORn low keeps the parameters but EVENT_ENABLE; its release resets them (R156, R190). -/
theorem test_porn_parameters :
    (after .pornAssert
        { traffic with params := { traffic.params with waitLimit := 3, eventEnable := 0x1FF } }).params =
        { traffic.params with waitLimit := 3, eventEnable := 0 } ∧
      (after .pornRelease (after .pornAssert { traffic with params := { traffic.params with waitLimit := 3 } })).params =
        State.reset.params := by decide +kernel

/-- A soft reset of a part that holds nothing is taken whole (R173). -/
theorem test_soft_reset_at_once :
    (after (.softReset (frame [])) failed).link.fetchResponse = some ⟨false, .resetDone, [0x01]⟩ ∧
      (after (.softReset (frame [])) failed).engine.lostrb = true ∧
      (after (.softReset (frame [])) failed).link.expected = true := by decide +kernel

/-- The first expiry comes when the elapsed time reaches the period in force (R140). -/
theorem test_first_expiry :
    (after .firstExpiry { traffic with timer := { traffic.timer with elapsed := 63 } }).timer.state = .running ∧
      (after .firstExpiry { traffic with timer := { traffic.timer with elapsed := 64 } }).timer.state = .warned ∧
      (after .firstExpiry { traffic with timer := { traffic.timer with elapsed := 64 } }).events.flags = 0x020 := by
  decide +kernel

/-! ## Witnesses: states and operands that meet the premises of the statements, clause by clause -/

theorem receives_frame (payload : List Byte) : Receives (frame payload) traffic := ⟨rfl, rfl, rfl, rfl⟩

theorem witness_IdleStepAdvancesTime :
    quietIntervalDue { State.reset with now := 64 } = true ∧
      initialisationDue { quietPart with now := 128, journal := State.reset.journal } = true ∧
      expiryDue 0 { traffic with now := 1024 } = true ∧
      firstExpiryDue { traffic with timer := { traffic.timer with elapsed := 64 } } = true ∧
      secondExpiryDue { traffic with timer := ⟨.warned, 64, 0, 64⟩ } = true ∧
      dueEvent quietPart = none := by decide +kernel

theorem witness_TimerCountsWholeMilliseconds :
    traffic.timer.state = .running ∧ traffic.timer.divider < 1000 ∧ quietPart.timer.state = .off ∧
      restoring.timer.state = .suspended := by decide

theorem witness_CommandPeriodReadsBack : (List.replicate 40 (0xFF#8)).length ≤ 40 := by decide

theorem witness_PeriodSpellsItsRow :
    periodCommand false .live (commandPeriodBits false 0x20#7 []) = some (.mark (frame [])) ∧
      periodCommand true .live (commandPeriodBits false 0x20#7 []) = some (.repeatFrame 0x20#7 (frame [])) := by decide +kernel

theorem traffic_withinCapacity : withinCapacity traffic :=
  ⟨by decide, by decide, by decide, by decide, by decide, fun c h => by cases h⟩

/-- Traffic with an examination waiting: the premise of each invariant's statement. -/
def examining : State := { traffic with pending := [.examination] }

theorem witness_StepKeepsCapacity :
    withinCapacity examining ∧ headIsLive examining ∧ step examining = .next (after .examination traffic) :=
  ⟨traffic_withinCapacity, by simp [headIsLive, examining, traffic], rfl⟩

theorem witness_StepKeepsCustody : custodyExact examining ∧ step examining = .next (after .examination traffic) :=
  ⟨⟨⟨by decide, by decide⟩, by decide, by decide +kernel⟩, rfl⟩

theorem witness_StepKeepsRecordsUnique : recordsUnique examining ∧ step examining = .next (after .examination traffic) :=
  ⟨by unfold recordsUnique; decide +kernel, rfl⟩

theorem witness_StepKeepsMarksConsistent : marksConsistent examining ∧ step examining = .next (after .examination traffic) := by
  refine ⟨⟨traffic_withinCapacity, fun h => absurd rfl h, ⟨by decide, by decide, by decide, by decide⟩, ⟨?_, ?_⟩, ⟨?_, ?_⟩,
    ⟨fun _ => ?_, fun e h => ?_⟩⟩, rfl⟩
  · simp [examining, traffic]
  · simp [examining, traffic, occupancy, tail, Config.ringSize]
  · simp [examining, traffic, newestSlots]
  · simp [examining, traffic]
  · simp [examining, traffic]
  · cases h

theorem witness_StepKeepsMarksConsistent_restoring : restoreInOrder restoring := by
  refine ⟨fun _ => by simp [restoring], fun e h => ?_⟩
  cases h
  exact ⟨rfl, by simp [restoring], _, rfl, rfl, rfl⟩

theorem witness_StepKeepsTimerSound : timerSound examining ∧ step examining = .next (after .examination traffic) := by
  refine ⟨⟨⟨by decide, by decide, by decide⟩, ⟨?_, fun _ => ⟨by decide, rfl, rfl⟩, ?_⟩, ⟨by decide, by decide, by decide, by decide⟩,
    ⟨fun h => absurd rfl h, fun h => absurd rfl h, fun h => absurd h (by decide), fun h => absurd rfl h, fun h => absurd rfl h⟩⟩, rfl⟩
  · rintro (h | h) <;> cases h
  · intro h; cases h

theorem witness_StepKeepsTablesProper :
    dirtyExact examining ∧ tablesProper examining ∧ step examining = .next (after .examination traffic) := by
  refine ⟨by unfold dirtyExact; decide +kernel, ?_, rfl⟩
  unfold tablesProper entryProper; decide +kernel

theorem witness_StepTestsTheDrain :
    drainTested { after (.rollback (frame [0x00, 0x01])) traffic with pending := [.examination] } ∧
      ∃ t, step { after (.rollback (frame [0x00, 0x01])) traffic with pending := [.examination] } = .next t :=
  ⟨⟨fun h => absurd rfl h, fun h => absurd rfl h, fun _ _ => by decide +kernel⟩, _, rfl⟩

/-- The part with PORn low. -/
def dark : State := after .pornAssert traffic

/-- Traffic in the quiesce of a soft reset. -/
def quiescent : State := after (.softReset (frame [])) traffic

theorem witness_PowerlessOrQuiescentPartIgnores :
    dark.porn = false ∧ quiescent.link.quiesce ≠ none ∧ (Frame.mk .acrossPorn false []).start ≠ .live ∧
      frameOf (.mark (frame [])) = some (frame []) ∧ ¬stageFree { traffic with admission := { traffic.admission with stalledOn := some .intakeHead } } :=
  ⟨rfl, by decide +kernel, by decide, rfl, fun h => by simpa using h.2.2⟩

theorem witness_NoReservationUnlessEngineIdle :
    failed.engine.state ≠ .idle ∧ restoring.engine.state ≠ .idle ∧ ∃ t, exec (.discard (frame [])) failed = .next t :=
  ⟨by decide, by decide, _, rfl⟩

/-- A valid capture record, and a refusal at the taking register on offer. -/
def capturing (further : Nat) : State :=
  after (.takeRequest { headWrite with count := 0 })
    { traffic with events := { flags := 0x002, capture := some ⟨.unmapped, 0, 0, .read, 0, none, 0, further⟩ } }

theorem witness_ValidCaptureOnlyCounts :
    (capturing 254).events.capture.isSome = true ∧ (capturing 254).link.quiesce = none ∧
      (after .responseTaken (capturing 254)).events.capture.map Capture.further = some 255 ∧
      (after .responseTaken (capturing 255)).events.capture.map Capture.further = some 255 := by decide +kernel

theorem witness_ParametersChangeOnlyByWrites :
    traffic.link.quiesce = none ∧ ∃ t, exec (.writeWaitLimit (frame [0x04, 0x00, 0x08])) traffic = .next t ∧ t.params.waitLimit = 8 ∧
      ∃ t', exec .examination traffic = .next t' := ⟨rfl, _, rfl, by decide +kernel, _, rfl⟩

theorem witness_ActiveTableChangesOnlyByPromotion :
    (after (.mark (frame [])) { traffic with regions := { oneRegion with staged := State.reset.regions.staged, dirty := true } }).regions.active =
        State.reset.regions.staged ∧
      (after (.softReset (frame [])) failed).regions.active.get 0 = RegionEntry.invalid ∧ failed.link.quiesce = none := by
  decide +kernel

theorem witness_LinkChangesOnlyByItsPeriods :
    frameOf .softResetStep4 = none ∧
      (after .softResetStep4 { quietPart with link := { quietPart.link with quiesce := some true } }).link.expected = false ∧
      (after .examination traffic).link = traffic.link := by decide +kernel

theorem witness_LostrbChangesOnlyAsR131Says :
    failed.engine.lostrb = false ∧ (after (.softReset (frame [])) failed).engine.lostrb = true ∧
      (after (.mark (frame [])) { quietPart with engine := { quietPart.engine with lostrb := true } }).engine.lostrb = false ∧
      (after .pornRelease { dark with engine := { dark.engine with lostrb := true } }).engine.lostrb = false := by
  decide +kernel

theorem witness_FrameSentTwiceExecutesOnce :
    frameOf (.release (frame [0x01])) = some (frame [0x01]) ∧
      exec (.release (frame [0x01])) traffic = .next (after (.release (frame [0x01])) traffic) := ⟨rfl, rfl⟩

theorem witness_IntnFollowsFlagsAndMask :
    intAsserted { quietPart with events := ⟨0x100, none⟩, params := { quietPart.params with eventEnable := 0x1FF } } = true ∧
      quietPart.porn = true ∧ exec .pornAssert quietPart = .next (after .pornAssert quietPart) := ⟨by decide, rfl, rfl⟩

/-- Two refusals wait: the one at the taking register is on offer, and the wait-list entry's has been ready since. -/
def twoReady : State := after (.waitExpiry 0) { capturing 0 with now := 1024 }

theorem witness_SelectorOffersLongestReady :
    twoReady.porn = true ∧ offeredAnswer twoReady ≠ none ∧
      readyHolders (after .responseTaken twoReady) = [(.waiting (0, 1), 1)] ∧ trackerOrderly twoReady ∧
      twoReady.hport.offered = some .taking ∧ (answerOf twoReady .taking).isSome = true ∧
      exec .examination twoReady = .next (after .examination twoReady) :=
  ⟨by decide +kernel, by decide +kernel, by decide +kernel, ⟨by decide +kernel, by decide +kernel⟩, by decide +kernel,
    by decide +kernel, rfl⟩

theorem witness_RollbackAndFaultLockHoldLines :
    failed.engine.state = .failed ∧
      (after .examination
          { failed with hport := { quietPart.hport with intake := [⟨request .read 0 0x20, none⟩] } }).tracker.hosts.length = 1 ∧
      (after .examination
          { restoring with hport := { quietPart.hport with intake := [⟨request .read 0 0x20, none⟩] } }).tracker.hosts.length =
        1 ∧
      failed.tracker.hosts = [] ∧ restoring.tracker.hosts = [] := by decide +kernel

theorem witness_NextEpochIsFirstFreeValue : withinCapacity traffic ∧ traffic.stack.nextEpoch ≠ 0#16 :=
  ⟨traffic_withinCapacity, by decide⟩

theorem witness_RequestIsTakenByItsChecks :
    traffic.porn = true ∧ traffic.link.quiesce = none ∧ traffic.hport.taking = none ∧ traffic.hport.intake.length < 8 ∧
      requestPair headWrite ∈ traffic.hport.outstanding ∧ requestPair (request .write 9 0x20) ∉ traffic.hport.outstanding ∧
      ¬((capturing 0).hport.taking = none) := by decide +kernel

theorem witness_TakenResponseFreesItsHolder :
    offeredAnswer traffic = none ∧ (capturing 0).porn = true ∧ (capturing 0).hport.offered = some .taking ∧
      (answerOf (capturing 0) .taking).isSome = true ∧
      (after .responseTaken twoReady).hport.offered = some (.waiting (0, 1)) ∧
      (answerOf (after .responseTaken twoReady) (.waiting (0, 1))).isSome = true := by decide +kernel

/-- The intake head is refused, its region being shut, and its refusal is on offer. -/
def headRefused : State :=
  after .examination { traffic with regions := { oneRegion with software := oneRegion.software.set 0 .shut } }

/-- The host entry has the answer to its read, and the response is on offer. -/
def hostAnswers : State :=
  after (.answer 0 (.ok lanes))
    { traffic with tracker := { hosts := [⟨0, .read, .mem, .outstanding, request .read 2 0x10, some 0⟩], restore := none } }

theorem witness_TakenResponseFreesItsHolder_head_and_host :
    headRefused.porn = true ∧ headRefused.hport.offered = some .intakeHead ∧
      (answerOf headRefused .intakeHead).map (fun x => x.2.result) = some (.failed .shut) ∧
      headRefused.admission.stalledOn = some .intakeHead ∧ (after .responseTaken headRefused).hport.intake = [] ∧
      hostAnswers.porn = true ∧ hostAnswers.hport.offered = some (.host 0) ∧
      (answerOf hostAnswers (.host 0)).isSome = true ∧ (after .responseTaken hostAnswers).tracker.hosts = [] := by
  decide +kernel

theorem traffic_needs : needsNewRecord traffic headWrite (some 0) := (needsRecord_iff _ _ _).mp (by decide +kernel)

theorem traffic_passes : passesRegionUnit traffic headWrite (some 0) :=
  ⟨matchLine_eq_some.mp (by decide +kernel), by unfold maskAdmits; decide +kernel, fun h => by revert h; decide +kernel, rfl⟩

theorem traffic_headIsNext : headIsNext traffic headWrite [] :=
  ⟨⟨rfl, rfl, rfl⟩, by decide, rfl, fun h hh => by cases hh⟩

theorem witness_HeadIsDispatched :
    headIsNext traffic headWrite [] ∧ dispatchedBy traffic headWrite traffic.admission.waitList 1 (some 0) ∧
      needsNewRecord traffic headWrite (some 0) ∧ ¬needsNewRecord traffic (request .read 0 0x20) (some 0) :=
  ⟨traffic_headIsNext,
    ⟨traffic_passes, trivial, (lineBusy_iff _ _ _).mp (by decide +kernel), freeIdentity_eq_some.mp (by decide +kernel),
      fun _ => by decide⟩,
    traffic_needs, fun h => by cases h.1⟩

/-- The same, but the head's write is to the line of the host entry, or its region is shut. -/
def blocked : State := { traffic with hport := { traffic.hport with intake := [⟨request .write 0 0x10, none⟩] } }

theorem blocked_parks (earlier : List WaitEntry) :
    parkedBy blocked (request .write 0 0x10) earlier .line (some 0) :=
  ⟨⟨matchLine_eq_some.mp (by decide +kernel), by unfold maskAdmits; decide +kernel, fun h => by revert h; decide +kernel, rfl⟩,
    trivial, fun h => h.1 ⟨0, .jwrite 0 1, .pre, .outstanding, request .write 2 0x10, some 0⟩ (List.mem_singleton.mpr rfl) rfl⟩

theorem witness_HeadParksOrIsRefused :
    headIsNext blocked (request .write 0 0x10) [] ∧
      parkedBy blocked (request .write 0 0x10) blocked.admission.waitList .line (some 0) ∧
      headIsNext { blocked with regions := { oneRegion with software := oneRegion.software.set 0 .shut } } (request .write 0 0x10) [] ∧
      refusedBy { blocked with regions := { oneRegion with software := oneRegion.software.set 0 .shut } } (request .write 0 0x10)
        blocked.admission.waitList .shut (some 0) :=
  ⟨⟨⟨rfl, rfl, rfl⟩, by decide, rfl, fun h hh => by cases hh⟩, blocked_parks _,
    ⟨⟨rfl, rfl, rfl⟩, by decide, rfl, fun h hh => by cases hh⟩,
    ⟨matchLine_eq_some.mp (by decide +kernel), by unfold maskAdmits; decide +kernel, fun h => by revert h; decide +kernel, rfl⟩⟩

/-- The same with a wait list of `n` entries. -/
def waitingBehind (n : Nat) : State :=
  { blocked with
    admission :=
      { blocked.admission with
        waitList := List.replicate n ⟨request .write 1 0x10, .line, some 0, 0, some 1024, false, none⟩ } }

theorem witness_HeadParksOrIsRefused_list_of_15_and_16 :
    headIsNext (waitingBehind 15) (request .write 0 0x10) [] ∧ (waitingBehind 15).admission.waitList.length = 15 ∧
      parkedBy (waitingBehind 15) (request .write 0 0x10) (waitingBehind 15).admission.waitList .line (some 0) ∧
      (after .examination (waitingBehind 15)).admission.waitList.length = 16 ∧
      headIsNext (waitingBehind 16) (request .write 0 0x10) [] ∧ (waitingBehind 16).admission.waitList.length = 16 ∧
      parkedBy (waitingBehind 16) (request .write 0 0x10) (waitingBehind 16).admission.waitList .line (some 0) ∧
      (after .examination (waitingBehind 16)).admission.held = some ⟨.line, some 0, false⟩ :=
  ⟨⟨⟨rfl, rfl, rfl⟩, by decide, rfl, fun h hh => by cases hh⟩, rfl, blocked_parks _, by decide +kernel,
    ⟨⟨rfl, rfl, rfl⟩, by decide, rfl, fun h hh => by cases hh⟩, rfl, blocked_parks _, by decide +kernel⟩

/-- The wait-list entry is released, its line still held by the host entry, or free. -/
def releasedOne (hosts : List HostEntry) (software : SoftwareState) : State :=
  { traffic with
    regions := { oneRegion with software := oneRegion.software.set 0 software }
    admission := { traffic.admission with waitList := [⟨request .write 1 0x10, .line, some 0, 0, some 1024, true, none⟩] }
    tracker := { hosts := hosts, restore := none } }

theorem released_isNext (hosts : List HostEntry) (software : SoftwareState) :
    releasedIsNext (releasedOne hosts software) 0 ⟨request .write 1 0x10, .line, some 0, 0, some 1024, true, none⟩ :=
  ⟨⟨rfl, rfl, rfl⟩, rfl, rfl, rfl, fun j hj => by omega⟩

theorem witness_ReleasedEntryIsExaminedFirst :
    parkedBy (releasedOne traffic.tracker.hosts .opened) (request .write 1 0x10) [] .line (some 0) ∧
      refusedBy (releasedOne [] .shut) (request .write 1 0x10) [] .shut (some 0) ∧
      dispatchedBy (releasedOne [] .opened) (request .write 1 0x10) [] 0 (some 0) ∧
      ¬needsNewRecord (releasedOne [] .opened) (request .write 1 0x10) (some 0) ∧
      needsNewRecord { releasedOne [] .opened with journal := quietPart.journal } (request .write 1 0x10) (some 0) := by
  have hm : (oneRegion.active.get 0).mask.getLsbD 0 = true := by decide +kernel
  have hp (hosts : List HostEntry) : passesRegionUnit (releasedOne hosts .opened) (request .write 1 0x10) (some 0) :=
    ⟨matchLine_eq_some.mp rfl, hm, (fun h => by cases h), rfl⟩
  refine ⟨⟨hp _, trivial, fun h =>
      h.1 ⟨0, .jwrite 0 1, .pre, .outstanding, request .write 2 0x10, some 0⟩ (List.mem_singleton.mpr rfl) rfl⟩,
    ⟨matchLine_eq_some.mp rfl, by unfold maskAdmits; exact rfl, (fun h => by cases h), rfl⟩,
    ⟨hp _, trivial, (lineBusy_iff _ _ _).mp rfl, freeIdentity_eq_some.mp rfl, fun _ => by decide⟩, ?_, ?_⟩
  · rw [← needsRecord_iff]; decide +kernel
  · rw [← needsRecord_iff]; decide +kernel

theorem witness_ExpiredEntryIsRefused :
    ∃ e, traffic.admission.waitList[0]? = some e ∧ e.answering = none ∧ e.expiry = some 1024 ∧ traffic.now < 1024 ∧
      1024 ≤ { traffic with now := 1024 }.now := ⟨_, rfl, rfl, rfl, by decide, by decide⟩

theorem witness_OperationsAreGrantedAndAccepted :
    State.reset.mport.quietSince ≠ none ∧ quietPart.mport.presented = none ∧ quietPart.mport.quietSince = none ∧
      quietPart.tracker.restore = none ∧ quietPart.tracker.hosts = [] ∧
      restoring.tracker.restore = some ⟨0x12, 2, lanes, .outstanding⟩ ∧
      (after .issueGrant { traffic with tracker := { hosts := [⟨0, .read, .mem, .toIssue, request .read 2 0x10, some 0⟩], restore := none } }).mport.presented.map
          Operation.entry = some (.host 0) ∧
      (after .issueGrant { restoring with tracker := { hosts := [], restore := some ⟨0x12, 2, lanes, .toIssue⟩ } }).mport.presented.map
          Operation.entry = some .restore := by decide +kernel

theorem witness_ForwardAnswerIsReturned :
    ({ traffic with tracker := { hosts := [⟨7, .read, .mem, .outstanding, request .read 2 0x10, some 0⟩], restore := none } } : State).tracker.hosts.find?
        (fun x => x.id = 7 ∧ x.op = .outstanding) = some ⟨7, .read, .mem, .outstanding, request .read 2 0x10, some 0⟩ ∧
      traffic.porn = true ∧ traffic.mport.quietSince = none ∧ (7 : Fin 16).val = (7 : HostId).val := by decide +kernel

theorem witness_PreReadAnswerSettlesRecord :
    traffic.porn = true ∧ traffic.mport.quietSince = none ∧
      traffic.tracker.hosts.find? (fun y => y.id = 0 ∧ y.op = .outstanding) =
        some ⟨0, .jwrite 0 1, .pre, .outstanding, request .write 2 0x10, some 0⟩ ∧
      recordAt traffic.journal 0 = some ⟨.reserved false, 1, 0x10, 0, 0⟩ ∧
      recordAt (after (.release (frame [0x01])) traffic).journal 0 = some ⟨.reserved true, 1, 0x10, 0, 0⟩ ∧
      (after (.release (frame [0x01])) traffic).journal.ring.set 0 none = [none] ++ [] := by decide +kernel

theorem witness_RestoreOkGoesOnOrCompletes :
    restoring.porn = true ∧ restoring.link.quiesce = none ∧ restoring.mport.quietSince = none ∧
      restoring.stack.checkpoints.getLast? = some ⟨1, 0, 3⟩ ∧ occupancy restoring.journal ≤ 1024 ∧
      restoring.journal.ring =
        [some ⟨.valid lanes, 1, 0x10, 0, 0⟩] ++ [some ⟨.void, 1, 0x11, 0, 0⟩] ++ [some ⟨.valid lanes, 1, 0x12, 0, 0⟩] ∧
      ({ restoring with stack := { checkpoints := [⟨1, 1, 2⟩], nextEpoch := 2 } } : State).stack.checkpoints.getLast? =
        some ⟨1, 1, [some (Record.mk .void 1 0x11 0 0)].length + 1⟩ := by decide +kernel

theorem witness_RestoreErrorsAndStopping :
    restoring.tracker.restore = some ⟨0x12, 2, lanes, .outstanding⟩ ∧ restoring.engine.retry = false ∧
      restoring.engine.stopping = false ∧ (after (.softReset (frame [])) restoring).engine.stopping = true ∧
      (after (.softReset (frame [])) restoring).tracker.restore = restoring.tracker.restore ∧
      (after (.softReset (frame [])) restoring).journal.ring =
        [some ⟨.valid lanes, 1, 0x10, 0, 0⟩, some ⟨.void, 1, 0x11, 0, 0⟩] ++ [some ⟨.valid lanes, 1, 0x12, 0, 0⟩] := by
  decide +kernel

theorem witness_StrayAnswersAreDiscarded :
    dark.porn = false ∧ State.reset.mport.quietSince ≠ none ∧ 9 ≤ (9 : Fin 16).val ∧
      (∀ e ∈ traffic.tracker.hosts, e.id.val = 7 → e.op ≠ .outstanding) ∧ traffic.tracker.restore = none := by decide +kernel

theorem witness_PornGivesPowerOnValues :
    traffic.porn = true ∧ traffic.journal.ring ≠ [] ∧ traffic.stack.checkpoints ≠ [] ∧ restoring.porn = true ∧
      restoring.engine.state = .restore ∧ dark.porn = false := by decide +kernel

theorem witness_TimedEventsComeOnTime :
    State.reset.porn = true ∧ State.reset.mport.quietSince = some 0 ∧ State.reset.journal.readiness = .initialising 0 ∧
      traffic.timer.state = .running := by decide

/-- A VOID record. -/
def voidRecord : Option Record := some ⟨.void, 1, 0x11, 0, 0⟩

/-- The second expiry is due, with these positions before the tail and this distance of the one open mark. -/
def expiring (ring : List (Option Record)) (distance : Nat) (hosts : List HostEntry) : State :=
  { traffic with
    tracker := { hosts := hosts, restore := none }
    journal := { readiness := .ready, head := 0, ring := ring }
    stack := { checkpoints := [⟨1, 0, distance⟩], nextEpoch := 2 }
    timer := { state := .warned, elapsed := 64, divider := 0, period := 64 } }

theorem witness_SecondExpiryRollsBack :
    drainHolds (rollbackEntered 0 ⟨1, 0, 1⟩ (expiring traffic.journal.ring 1 traffic.tracker.hosts)) = false ∧
      drainHolds (rollbackEntered 0 ⟨1, 0, 0⟩ (expiring [] 0 [])) = true ∧
      drainHolds (rollbackEntered 0 ⟨1, 0, 1⟩ (expiring [some ⟨.valid lanes, 1, 0x10, 0, 0⟩] 1 [])) = true ∧
      drainHolds (rollbackEntered 0 ⟨1, 0, 1⟩ (expiring [voidRecord] 1 [])) = true ∧
      drainHolds (rollbackEntered 0 ⟨1, 0, 2⟩ (expiring [some ⟨.valid lanes, 1, 0x10, 0, 0⟩, voidRecord] 2 [])) = true ∧
      (after .secondExpiry (expiring [voidRecord] 1 [])).journal.ring = [] ∧
      (after .secondExpiry (expiring [voidRecord] 1 [])).engine.state = .idle ∧
      (after .secondExpiry (expiring [some ⟨.valid lanes, 1, 0x10, 0, 0⟩, voidRecord] 2 [])).tracker.restore =
        some ⟨0x10, 0, lanes, .toIssue⟩ ∧
      (expiring [] 0 []).timer.period ≤ (expiring [] 0 []).timer.elapsed ∧ (expiring [] 0 []).engine.state = .idle ∧
      0 = (if (expiring [] 0 []).params.dlTarget = .newest then depth (expiring [] 0 []) - 1 else 0) := by decide +kernel

theorem witness_PeriodsWithoutExecution :
    readPeriod (bitsOfBytes [0xC5, 0x02]) = .error ∧ (frame []).payload.length ≤ 40 ∧ (Frame.mk .live true []).toggle ≠ traffic.link.expected ∧
      quietPart.link.fetchResponse.isSome = true ∧ quiescent.link.quiesce ≠ none ∧ quietPart.link.quiesce = none ∧
      PeriodStart.inQuiesce ≠ .acrossPorn ∧ dark.porn = false ∧
      (bitsOfByte 0x3A#8 ++ [false]).take 8 = bitsOfByte 0x3A#8 ∧ (bitsOfByte 0xC5#8).take 8 ≠ bitsOfByte 0x3A#8 := by
  decide +kernel

theorem witness_GenericChecksComeFirst :
    Receives (frame [0x00]) traffic ∧ isKnownCode 0x07#7 = false ∧ payloadLength (.mark (frame [0x00])) = some 0 ∧
      Receives (frame []) State.reset ∧ journalDependent (.mark (frame [])) ∧ State.reset.journal.readiness ≠ .ready :=
  ⟨receives_frame _, by decide, rfl, ⟨rfl, rfl, rfl, rfl⟩, trivial, by decide⟩

theorem witness_ReadsAnswerTheirBytes :
    Receives (frame []) traffic ∧ traffic.events.capture = none ∧ (capturing 0).events.capture.isSome = true ∧
      traffic.stack.checkpoints.length ≤ 4 := ⟨receives_frame _, rfl, by decide +kernel, by decide⟩

theorem witness_ReadParamAnswersTheValue : Receives (frame [0x08]) traffic ∧ (frame [0x08]).payload = [0x08] :=
  ⟨receives_frame _, rfl⟩

theorem witness_TablesAndJournalReadBack :
    Receives (frame [0x0B, 0x01]) traffic ∧ (11 : RegionIndex).val = (0x0B#8).toNat ∧ 12 ≤ (0x0C#8).toNat ∧
      Receives (frame [0x03, 0xFF]) traffic ∧ 256 * (0x03#8).toNat + (0xFF#8).toNat < 1024 ∧
      1024 ≤ 256 * (0x04#8).toNat + (0x00#8).toNat ∧ recordAt traffic.journal 1023 = none ∧
      (recordAt traffic.journal 0).isSome = true :=
  ⟨receives_frame _, rfl, by decide, receives_frame _, by decide, by decide, by decide +kernel, by decide +kernel⟩

theorem witness_FlagsAndCaptureAreCleared :
    Receives (frame [0x02, 0x00]) traffic ∧ 512 ≤ 256 * (0x02#8).toNat + (0x00#8).toNat ∧
      256 * (0x01#8).toNat + (0xFF#8).toNat < 512 := ⟨receives_frame _, by decide, by decide⟩

theorem witness_ParameterWritesTakeEffect :
    Receives (frame [0x03, 0x04, 0x00]) traffic ∧ Receives (frame [0x04, 0x00, 0x0F]) traffic ∧
      Receives (frame [0x06, 0x00, 0x0B]) traffic ∧ Receives (frame [0x07, 0x00, 0x01]) traffic ∧
      Receives (frame [0x08, 0x01, 0xFF]) traffic ∧ Receives (frame [0x01, 0x00, 0x01]) traffic ∧
      Receives (frame [0x02, 0x00, 0x01]) traffic :=
  ⟨receives_frame _, receives_frame _, receives_frame _, receives_frame _, receives_frame _, receives_frame _, receives_frame _⟩

theorem witness_ParameterWritesTakeEffect_unknown :
    Receives (frame [0x00, 0x00, 0x00]) traffic ∧ (0x00#8).toNat = 0 ∧ Receives (frame [0x09, 0x00, 0x00]) traffic ∧
      9 ≤ (0x09#8).toNat ∧ 9 ≤ (0xFF#8).toNat := ⟨receives_frame _, rfl, receives_frame _, by decide, by decide⟩

theorem witness_DlEnableActsAtOnce :
    2 ≤ 256 * (0x00#8).toNat + (0x02#8).toNat ∧ 2 ≤ 256 * (0x01#8).toNat + (0x00#8).toNat ∧
      256 * (0x00#8).toNat + (0x01#8).toNat ≤ 1 ∧ Receives (frame [0x05, 0x00, 0x02]) traffic ∧
      Receives (frame [0x05, 0x00, 0x01]) traffic ∧ traffic.params.dlEnable = true ∧ quietPart.params.dlEnable = false ∧
      depth quietPart = 0 ∧ 1 ≤ depth { traffic with params := quietPart.params } ∧ failed.engine.state ≠ .idle ∧
      1 ≤ depth failed :=
  ⟨by decide, by decide, by decide, receives_frame _, receives_frame _, rfl, rfl, rfl, by decide, by decide, by decide⟩

theorem witness_StageRegionWritesOneEntry :
    Receives (frame [0x0B, 0x07, 0xFF, 0xFF, 0xFF, 0x07, 0xFF, 0xFF, 0xFF, 0x02, 0x00]) traffic ∧
      16777216 * (0x07#8).toNat + 65536 * (0xFF#8).toNat + 256 * (0xFF#8).toNat + (0xFF#8).toNat < 134217728 ∧
      134217728 ≤ 16777216 * (0x08#8).toNat := ⟨receives_frame _, by decide, by decide⟩

theorem witness_StagedEntriesAreClearedAndReverted :
    Receives (frame [0x0B]) traffic ∧ (0x0B#8).toNat = (11 : RegionIndex).val ∧ 12 ≤ (0x0C#8).toNat ∧
      Receives (frame []) traffic := ⟨receives_frame _, rfl, by decide, receives_frame _⟩

theorem witness_RegionCommandsActAtOnce :
    Receives (frame []) traffic ∧ Receives (frame [0x00, 0x02]) traffic ∧ traffic.regions.software.get 0 ≠ .shut ∧
      3 ≤ (0x03#8).toNat := ⟨receives_frame _, receives_frame _, by decide +kernel, by decide⟩

theorem witness_CheckpointCommandsAreRefused :
    Receives (frame []) restoring ∧ restoring.journal.readiness = .ready ∧ Receives (frame [0x00, 0x00]) failed ∧
      failed.engine.state = .failed ∧ Receives (frame [0x00]) traffic ∧ depth quietPart = 0 ∧ depth traffic < (0x02#8).toNat ∧
      4 ≤ depth { traffic with stack := { checkpoints := [⟨1, 0, 0⟩, ⟨2, 0, 0⟩, ⟨3, 0, 0⟩, ⟨4, 0, 0⟩], nextEpoch := 5 } } :=
  ⟨⟨rfl, rfl, rfl, rfl⟩, rfl, ⟨rfl, rfl, rfl, rfl⟩, rfl, receives_frame _, rfl, by decide, by decide⟩

theorem witness_MarkOpensACheckpoint :
    Receives (frame []) traffic ∧ traffic.journal.readiness = .ready ∧ traffic.engine.state = .idle ∧ depth traffic < 4 :=
  ⟨receives_frame _, rfl, rfl, by decide⟩

theorem witness_ReleaseGivesUpTheOldest :
    Receives (frame [0x01]) (expiring [some ⟨.valid lanes, 1, 0x10, 0, 0⟩] 1 []) ∧
      1 ≤ (0x01#8).toNat ∧ (0x01#8).toNat ≤ depth (expiring [some ⟨.valid lanes, 1, 0x10, 0, 0⟩] 1 []) ∧
      (after (.release (frame [0x01])) (expiring [some ⟨.valid lanes, 1, 0x10, 0, 0⟩] 1 [])).journal =
        { readiness := .ready, head := 1, ring := [] } :=
  ⟨⟨rfl, rfl, rfl, rfl⟩, by decide, by decide, by decide +kernel⟩

theorem witness_RollbackIsStarted :
    Receives (frame (be16 1)) (expiring [some ⟨.valid lanes, 1, 0x10, 0, 0⟩] 1 []) ∧
      drainHolds (rollbackEntered 0 ⟨1, 0, 1⟩ traffic) = false ∧
      drainHolds (rollbackEntered 0 ⟨1, 0, 0⟩ (expiring [] 0 [])) = true ∧
      drainHolds (rollbackEntered 0 ⟨1, 0, 1⟩ (expiring [some ⟨.valid lanes, 1, 0x10, 0, 0⟩] 1 [])) = true ∧
      drainHolds (rollbackEntered 0 ⟨1, 0, 1⟩ (expiring [voidRecord] 1 [])) = true ∧
      drainHolds (rollbackEntered 0 ⟨1, 0, 2⟩ (expiring [some ⟨.valid lanes, 1, 0x10, 0, 0⟩, voidRecord] 2 [])) = true ∧
      failed.engine.state = .failed ∧ failed.engine.stopping = false :=
  ⟨⟨rfl, rfl, rfl, rfl⟩, by decide +kernel, by decide +kernel, by decide +kernel, by decide +kernel, by decide +kernel, rfl,
    rfl⟩

theorem witness_DiscardEndsEveryCheckpoint :
    Receives (frame []) failed ∧ failed.journal.readiness = .ready ∧ failed.engine.state = .failed ∧
      (failed.journal.ring.map fun _ => (none : Option Record)) = [none, none, none] ++ [] ∧ traffic.engine.state = .idle :=
  ⟨⟨rfl, rfl, rfl, rfl⟩, rfl, rfl, by decide +kernel, rfl⟩

theorem witness_SoftResetQuiesces : Receives (frame []) traffic ∧ (frame []).payload = [] ∧ traffic.hport.intake ≠ [] :=
  ⟨receives_frame _, rfl, by decide⟩

theorem witness_StepFourGivesSoftResetValues :
    Receives (frame []) failed ∧ failed.hport.intake = [] ∧ failed.admission.waitList = [] ∧ failed.hport.taking = none ∧
      failed.tracker.hosts = [] ∧ failed.tracker.restore = none ∧
      ({ quietPart with link := { quietPart.link with quiesce := some true } } : State).link.quiesce = some true :=
  ⟨⟨rfl, rfl, rfl, rfl⟩, rfl, rfl, rfl, rfl, rfl, rfl⟩

end Sys2Proof.Machine.Tests
end

section
/-!
PROOFS. The host and memory ports: the request taken on the H-port (R2 to R6) and the answers that the M-port discards (R15).
-/

namespace Sys2Proof.Machine

/-! ## TAKE_REQUEST (R2 to R6) -/

/-- The first word is the word address modulo 8 (R1). -/
theorem requestFirst_eq_mod (r : Request) : requestFirst r = r.address.toNat % 8 := by
  simp [requestFirst, BitVec.extractLsb'_toNat]

theorem requestMalformed_iff (r : Request) :
    requestMalformed r = true ↔
      r.count.toNat = 0 ∨ 9 ≤ r.count.toNat ∨ 8 < r.address.toNat % 8 + r.count.toNat := by
  rw [requestMalformed, decide_eq_true_iff, requestFirst_eq_mod]

/-- The four conditions of acceptance (R2). -/
theorem canTake_iff (s : State) :
    canTake s = true ↔
      s.porn = true ∧ s.link.quiesce = none ∧ s.hport.taking = none ∧ s.hport.intake.length < 8 := by
  change _ ↔ _ ∧ _ ∧ _ ∧ s.hport.intake.length < Config.intakeCapacity
  simp [canTake, quiescing, and_assoc]

theorem exec_takeRequest (r : Request) (s : State) : exec (.takeRequest r) s = execTakeRequest r s := rfl

theorem exec_takeRequest_of_not_canTake {r : Request} {s : State} (h : ¬canTake s = true) :
    exec (.takeRequest r) s = .next s := by
  rw [exec_takeRequest, execTakeRequest, if_neg h]

theorem exec_takeRequest_of_canTake {r : Request} {s : State} (h : canTake s = true) :
    exec (.takeRequest r) s = .next (takeRequest r s) := by
  rw [exec_takeRequest, execTakeRequest, if_pos h]

/-! ### The two checks, in their order (R3) -/

theorem takingCheck_of_malformed {r : Request} {s : State} (h : requestMalformed r = true) :
    takingCheck r s = some .malformed := by
  rw [takingCheck, if_pos h]

theorem takingCheck_of_outstanding {r : Request} {s : State} (hm : ¬requestMalformed r = true)
    (ho : requestPair r ∈ s.hport.outstanding) : takingCheck r s = some .tagInUse := by
  rw [takingCheck, if_neg hm, if_pos ho]

theorem takingCheck_of_passed {r : Request} {s : State} (hm : ¬requestMalformed r = true)
    (ho : requestPair r ∉ s.hport.outstanding) : takingCheck r s = none := by
  rw [takingCheck, if_neg hm, if_neg ho]

/-! ### Where the request goes -/

/-- A request that fails a check goes to the taking register alone: its refusal is ready at once and the selector may offer
it (R3, R4, R8). -/
theorem takeRequest_of_refused {r : Request} {s : State} {reason : Reason} (h : takingCheck r s = some reason) :
    takeRequest r s =
      offerNext { s with
        hport := { s.hport with taking := some ⟨r, ⟨.failed reason, none, s.readySeq⟩⟩ }
        readySeq := s.readySeq + 1 } := by
  rw [takeRequest, h]
  rfl

/-- A request that passes both checks joins the intake queue at its end, and its pair the outstanding set (R5, R6). -/
theorem takeRequest_of_accepted {r : Request} {s : State} (h : takingCheck r s = none) :
    takeRequest r s =
      { s with
        hport :=
          { s.hport with
            intake := s.hport.intake ++ [⟨r, none⟩]
            outstanding := s.hport.outstanding ++ [requestPair r] } } := by
  rw [takeRequest, h]

/-- Settles O28: acceptance is `canTake`, and each branch of the statement is one outcome of `takingCheck`. -/
theorem requestIsTakenByItsChecks : Obligations.RequestIsTakenByItsChecks := by
  intro r s
  refine ⟨fun hwithheld => exec_takeRequest_of_not_canTake (mt (canTake_iff s).1 hwithheld), ?_⟩
  intro hporn hquiesce htaking hroom
  rw [exec_takeRequest_of_canTake ((canTake_iff s).2 ⟨hporn, hquiesce, htaking, hroom⟩)]
  split
  case isTrue hm => rw [takeRequest_of_refused (takingCheck_of_malformed ((requestMalformed_iff r).2 hm))]
  case isFalse hm =>
    rw [← requestMalformed_iff] at hm
    split
    case isTrue ho => rw [takeRequest_of_refused (takingCheck_of_outstanding hm ho)]
    case isFalse ho => rw [takeRequest_of_accepted (takingCheck_of_passed hm ho), requestPair]

/-! ## The answers that are discarded (R15) -/

theorem entryOfIdentity_of_lt {identity : Fin 16} (h : identity.val < 8) :
    entryOfIdentity identity = some (.host ⟨identity.val, h⟩) := by
  rw [entryOfIdentity, dif_pos h]

theorem entryOfIdentity_of_eq {identity : Fin 16} (h : identity.val = 8) :
    entryOfIdentity identity = some .restore := by
  rw [entryOfIdentity, dif_neg (by omega), if_pos h]

theorem entryOfIdentity_of_ge {identity : Fin 16} (h : 9 ≤ identity.val) : entryOfIdentity identity = none := by
  rw [entryOfIdentity, dif_neg (by omega), if_neg (by omega)]

theorem exec_answer (identity : Fin 16) (a : MemAnswer) (s : State) :
    exec (.answer identity a) s = execAnswer identity a s := rfl

theorem exec_answer_of_porn_low {identity : Fin 16} {a : MemAnswer} {s : State} (h : s.porn = false) :
    exec (.answer identity a) s = .next s := by
  simp [exec_answer, execAnswer, whilePowered, h]

theorem exec_answer_of_quiet {identity : Fin 16} {a : MemAnswer} {s : State} (h : s.mport.quietSince ≠ none) :
    exec (.answer identity a) s = .next s := by
  simp [exec_answer, execAnswer, whilePowered, Option.isSome_iff_ne_none, h]

theorem exec_answer_of_unnamed {identity : Fin 16} {a : MemAnswer} {s : State}
    (h : entryOfIdentity identity = none) : exec (.answer identity a) s = .next s := by
  simp [exec_answer, execAnswer, whilePowered, h]

theorem exec_answer_of_host_not_outstanding {identity : Fin 16} {a : MemAnswer} {s : State} {id : HostId}
    (hid : entryOfIdentity identity = some (.host id)) (h : ∀ e ∈ s.tracker.hosts, e.id = id → e.op ≠ .outstanding) :
    exec (.answer identity a) s = .next s := by
  have hnone : (s.tracker.hosts.find? fun e => e.id = id ∧ e.op = .outstanding) = none := by
    simpa [List.find?_eq_none] using h
  simp only [exec_answer, execAnswer, whilePowered, hid, hnone, ite_self]

theorem exec_answer_of_restore_not_outstanding {identity : Fin 16} {a : MemAnswer} {s : State}
    (hid : entryOfIdentity identity = some .restore) (h : ∀ e, s.tracker.restore = some e → e.op ≠ .outstanding) :
    exec (.answer identity a) s = .next s := by
  cases hr : s.tracker.restore with
  | none => simp [exec_answer, execAnswer, whilePowered, hid, hr]
  | some e => simp [exec_answer, execAnswer, whilePowered, hid, hr, h e hr]

/-- Settles O39, one lemma for each of R15's grounds of discard. -/
theorem strayAnswersAreDiscarded : Obligations.StrayAnswersAreDiscarded := by
  rintro s identity a (hporn | hquiet | hunnamed | ⟨hlt, hhosts⟩ | ⟨heq, hrestore⟩)
  · exact exec_answer_of_porn_low hporn
  · exact exec_answer_of_quiet hquiet
  · exact exec_answer_of_unnamed (entryOfIdentity_of_ge hunnamed)
  · exact exec_answer_of_host_not_outstanding (entryOfIdentity_of_lt hlt)
      fun e he hid => hhosts e he (congrArg Fin.val hid)
  · exact exec_answer_of_restore_not_outstanding (entryOfIdentity_of_eq heq) hrestore

end Sys2Proof.Machine
end

section
/-!
PROOFS. The interrupt line: INTn as a function of the event flags and EVENT_ENABLE (R150).
-/

namespace Sys2Proof.Machine

/-- A mask is other than 0 exactly when one of its bits is set. -/
theorem mask_ne_zero_iff {w : Nat} (m : BitVec w) : m ≠ 0 ↔ ∃ i : Fin w, m.getLsbD i.val = true := by
  simp [Ne, BitVec.eq_of_getElem_eq_iff, Fin.exists_iff]

theorem intAsserted_iff (s : State) :
    intAsserted s = true ↔
      ∃ i : Fin 9, s.events.flags.getLsbD i.val = true ∧ s.params.eventEnable.getLsbD i.val = true := by
  have hline : intAsserted s = true ↔ s.events.flags &&& s.params.eventEnable ≠ 0 := bne_iff_ne
  simp only [hline, mask_ne_zero_iff, BitVec.getLsbD_and, Bool.and_eq_true]

/-- With every flag disabled the line is released, whatever flags are set (R150). -/
theorem intAsserted_of_all_disabled {s : State} (h : s.params.eventEnable = 0) : intAsserted s = false := by
  simp [intAsserted, h]

@[simp] theorem powerOffValues_eventEnable (s : State) : (powerOffValues s).params.eventEnable = 0 := rfl

theorem exec_pornAssert_of_porn_high {s : State} (h : s.porn = true) :
    exec .pornAssert s = .next (powerOffValues s) := by
  change Host.Outcome.next (whilePowered powerOffValues s) = _
  rw [whilePowered, if_pos h]

/-- Settles O24: a bit of flags-and-mask is a flag both set and enabled, and PORn going low disables every flag (R156). -/
theorem intnFollowsFlagsAndMask : Obligations.IntnFollowsFlagsAndMask := by
  intro s
  refine ⟨intAsserted_iff s, fun t hporn hexec => ?_⟩
  rw [exec_pornAssert_of_porn_high hporn] at hexec
  obtain rfl := Host.Outcome.next.inj hexec
  exact intAsserted_of_all_disabled (powerOffValues_eventEnable s)

end Sys2Proof.Machine
end

section
/-!
PROOFS. What a command can do, said once: every command either leaves the part as it was, or changes nothing but the link,
or has one of the effects listed here. The invariants and the frame statements are proved by going through these.
-/

namespace Sys2Proof.Machine

/-- What the commands of the service link that change more than the link do to the rest of the part, once their own checks
have passed (R178). -/
inductive Execution : Instr → State → State → Prop
  | clearEvents {s} (f) (mask : BitVec 9) : Execution (.clearEvents f) s (clearFlags mask s)
  | ackCapture {s} (f) : Execution (.ackCapture f) s { s with events := { s.events with capture := none } }
  | writeDefaultPolicy {s} (f) (v : Nat) : Execution (.writeDefaultPolicy f) s (storeDefaultPolicy v s)
  | writeFullAction {s} (f) (v : Nat) : Execution (.writeFullAction f) s (storeFullAction v s)
  | writeJhighLevel {s} (f) (v : Nat) (hv : v ≤ 1024) : Execution (.writeJhighLevel f) s (storeJhighLevel v s)
  | writeWaitLimit {s} (f) (v : Nat) (hv : v ≤ 15) : Execution (.writeWaitLimit f) s (storeWaitLimit v s)
  | writeDlEnable {s} (f) (v : Nat) : Execution (.writeDlEnable f) s (storeDlEnable v s)
  | writeDlPeriod {s} (f) (v : Nat) (hv : v ≤ 10) : Execution (.writeDlPeriod f) s (storeDlPeriod v s)
  | writeDlTarget {s} (f) (v : Nat) : Execution (.writeDlTarget f) s (storeDlTarget v s)
  | writeEventEnable {s} (f) (v : Nat) : Execution (.writeEventEnable f) s (storeEventEnable v s)
  | stageRegion {s} (f) (i : RegionIndex) (e : RegionEntry) (hv : e.valid = true) (hle : e.base ≤ e.limit) :
    Execution (.stageRegion f) s (editStaged (s.regions.staged.set i e) s)
  | clearStaged {s} (f) (i : RegionIndex) :
    Execution (.clearStaged f) s (editStaged (s.regions.staged.set i RegionEntry.invalid) s)
  | revertStaged {s} (f) : Execution (.revertStaged f) s (editStaged s.regions.active s)
  | applyRegions {s} (f) : Execution (.applyRegions f) s (promote s)
  | setRegionState {s} (f) (i : RegionIndex) (v : SoftwareState) : Execution (.setRegionState f) s (setSoftwareState i v s)
  | mark {s} (f) (hready : s.journal.readiness = .ready) (hidle : s.engine.state = .idle) (hroom : depth s < 4) :
    Execution (.mark f) s (acceptMark s)
  | release {s} (f) (n : Nat) (hready : s.journal.readiness = .ready) (hidle : s.engine.state = .idle) (hn : n ≤ depth s) :
    Execution (.release f) s (acceptRelease n s)
  | rollback {s} (f) (k : Nat) (target : Checkpoint) (hready : s.journal.readiness = .ready)
    (hfree : s.engine.state = .idle ∨ s.engine.state = .failed) (hk : s.stack.checkpoints[k]? = some target) :
    Execution (.rollback f) s (acceptRollback k s)
  | discard {s} (f) (hready : s.journal.readiness = .ready) (hfree : s.engine.state = .idle ∨ s.engine.state = .failed) :
    Execution (.discard f) s (acceptDiscard s)

/-- A command that is a select period: a frame, a frame in error, a repeat or a fetch (R159). -/
def IsPeriod (c : Instr) : Prop :=
  frameOf c ≠ none ∨ (∃ start bits, c = .frameError start bits) ∨ (∃ code f, c = .repeatFrame code f) ∨
    ∃ start clocked, c = .fetchPeriod start clocked

/-- The part once the holder has given up the request whose response was taken, before the next offer (R8, R9, R152). -/
def afterTaking (h : Holder) (r : Request) (a : Ready) (s : State) : State :=
  unstall h (giveUp h r (captureResponse (currentEpoch s) r a { s with hport := { s.hport with offered := none } }))

/-- Everything that a command can do to the part. -/
inductive Effect : Instr → State → State → Prop
  | nothing {c s} : Effect c s s
  | link {c s} (l : Link) (hc : IsPeriod c) (hq : l.quiesce = s.link.quiesce)
    (hl : ∀ f, frameOf c = some f → Receives f s → f.payload.length ≤ 40 →
      ∃ status payload, l = answeredLink f status payload s.link) : Effect c s { s with link := l }
  | executed {c s u} (f : Frame) (status : Status) (payload : List Byte) (hf : frameOf c = some f) (hr : Receives f s)
    (he : Execution c s u) : Effect c s { u with link := answeredLink f status payload s.link }
  | softReset {s} (f : Frame) (hr : Receives f s) : Effect (.softReset f) s (beginSoftReset f.toggle s)
  | softResetStep4 {s} (hp : s.porn = true) : Effect .softResetStep4 s (settleQuiesce s)
  | takeRequest {s} (r : Request) (hc : canTake s = true) : Effect (.takeRequest r) s (takeRequest r s)
  | responseTaken {s} (h : Holder) (r : Request) (a : Ready) (hp : s.porn = true) (ho : s.hport.offered = some h)
    (ha : answerOf s h = some (r, a)) : Effect .responseTaken s (settleQuiesce (offerNext (afterTaking h r a s)))
  | examination {s} (subject : Subject) (hn : nextSubject s = some subject) :
    Effect .examination s (offerNext (examineSubject subject s))
  | waitExpiry {s} (place : Fin 16) (hd : expiryDue place.val s = true) :
    Effect (.waitExpiry place) s (offerNext (expire place.val s))
  | issueGrant {s} (hp : s.porn = true) :
    Effect .issueGrant s { s with mport := { s.mport with presented := arbiterChoice s } }
  | operationAccepted {s} (op : Operation) (hp : s.porn = true) :
    Effect .operationAccepted s
      { s with mport := { s.mport with presented := none }, tracker := markOutstanding op.entry s.tracker }
  | hostAnswer {s} (identity : Fin 16) (a : MemAnswer) (id : HostId) (e : HostEntry) (hp : s.porn = true)
    (he : (s.tracker.hosts.find? fun e => e.id = id ∧ e.op = .outstanding) = some e) :
    Effect (.answer identity a) s (settleQuiesce (offerNext (hostAnswered e a s)))
  | restoreAnswer {s} (identity : Fin 16) (a : MemAnswer) (e : RestoreEntry) (hp : s.porn = true)
    (he : s.tracker.restore = some e) (ho : e.op = .outstanding) :
    Effect (.answer identity a) s
      (settleQuiesce (restoreAnswered e a { s with tracker := { s.tracker with restore := none } }))
  | pornAssert {s} (hp : s.porn = true) : Effect .pornAssert s (powerOffValues s)
  | pornRelease {s} (hp : s.porn = false) : Effect .pornRelease s (powerOnValues s)
  | quietIntervalEnd {s} (hd : quietIntervalDue s = true) :
    Effect .quietIntervalEnd s { s with mport := { s.mport with quietSince := none } }
  | journalReady {s} (hd : initialisationDue s = true) :
    Effect .journalReady s (setFlag .ready { s with journal := { readiness := .ready, head := 0, ring := [] } })
  | firstExpiry {s} (hp : s.porn = true) (hd : firstExpiryDue s = true) :
    Effect .firstExpiry s
      (setFlag .dlwarn { s with timer := { s.timer with state := .warned, elapsed := 0, divider := 0 } })
  | secondExpiry {s} (k : Nat) (target : Checkpoint) (hp : s.porn = true) (hd : secondExpiryDue s = true)
    (hk : s.stack.checkpoints[k]? = some target) : Effect .secondExpiry s (acceptRollback k (setFlag .dlroll s))

@[simp] theorem answeredLink_quiesce (f : Frame) (status : Status) (payload : List Byte) (l : Link) :
    (answeredLink f status payload l).quiesce = l.quiesce := rfl

/-- An execution leaves the link to its response. -/
theorem Execution.link_eq {c : Instr} {s u : State} (h : Execution c s u) : u.link = s.link := by
  cases h <;> simp

/-- An execution moves neither PORn, nor the clock, nor the queue. -/
theorem Execution.porn_now_pending {c : Instr} {s u : State} (h : Execution c s u) :
    u.porn = s.porn ∧ u.now = s.now ∧ u.pending = s.pending := by
  cases h <;> simp

/-! ## The commands of the link -/

theorem isPeriod_of_frameOf {c : Instr} {f : Frame} (h : frameOf c = some f) : IsPeriod c := .inl (by simp [h])

/-- A frame that is not executed changes nothing but the link. -/
theorem effect_receiveFrame {c : Instr} {f : Frame} {s : State} {execute : State → State} (hc : IsPeriod c)
    (hf : ∀ f', frameOf c = some f' → f' = f)
    (h : Receives f s → f.payload.length ≤ 40 → Effect c s (execute s)) : Effect c s (receiveFrame f execute s) := by
  rcases receiveFrame_cases f execute s with ⟨he, -⟩ | ⟨he, -, hlong⟩ | ⟨he, -, htoggle⟩ | ⟨he, hr, hl⟩ <;> rw [he]
  · exact .nothing
  · refine .link _ hc rfl fun f' hf' _ hshort => ?_
    obtain rfl := hf f' hf'
    exact absurd hshort (not_le.mpr hlong)
  · refine .link _ hc rfl fun f' hf' hr _ => ?_
    obtain rfl := hf f' hf'
    obtain ⟨-, -, -, hexpected⟩ := hr
    exact absurd hexpected htoggle
  · exact h hr hl

theorem frame_unique {c : Instr} {f : Frame} (hf : frameOf c = some f) (f' : Frame) (hf' : frameOf c = some f') : f' = f :=
  Option.some.inj (hf'.symm.trans hf)

theorem effect_respond {c : Instr} {f : Frame} {s : State} (hf : frameOf c = some f) (status : Status) (payload : List Byte) :
    Effect c s (respond f.toggle status payload s) :=
  .link _ (isPeriod_of_frameOf hf) rfl fun f' hf' _ _ => ⟨status, payload, by rw [frame_unique hf f' hf']; rfl⟩

/-- A command with generic checks: its own part either leaves everything as it was or is one of the executions. -/
theorem effect_execCommand {c : Instr} {f : Frame} {s : State} {n : Nat} {needs : Bool} {own : State → Reply}
    (hf : frameOf c = some f)
    (h : (needs = true → s.journal.readiness = .ready) → (own s).after = s ∨ Execution c s (own s).after) :
    Effect c s (execCommand f n needs own s) := by
  refine effect_receiveFrame (isPeriod_of_frameOf hf) (frame_unique hf) fun hr _ => ?_
  split
  · exact effect_respond hf _ _
  · split
    · exact effect_respond hf _ _
    · rename_i hj
      have hready : needs = true → s.journal.readiness = .ready := fun hneeds => by
        simpa [hneeds, journalIsReady] using hj
      rw [respond_eq]
      rcases h hready with hs | hu
      · rw [hs]
        exact effect_respond hf _ _
      · rw [hu.link_eq]
        exact .executed f _ _ hf hr hu

/-- A command that only reads. -/
theorem effect_read {c : Instr} {f : Frame} {s : State} {n : Nat} {needs : Bool} {own : State → Reply}
    (hf : frameOf c = some f) (h : (own s).after = s) : Effect c s (execCommand f n needs own s) :=
  effect_execCommand hf fun _ => .inl h

/-- A WRITE-PARAM: nothing, a response, or the store of a value within the range. -/
theorem effect_writeParam {c : Instr} {f : Frame} {s : State} {p : Param} {store : Nat → State → State}
    (hf : frameOf c = some f) (h : ∀ v ≤ paramMax p, Execution c s (store v s)) :
    Effect c s (writeParam p store f s) := by
  unfold writeParam
  split
  · exact .nothing
  · refine effect_execCommand hf fun _ => ?_
    unfold writeParamReply
    split
    · exact .inl rfl
    · rename_i hv
      exact .inr (h _ (not_lt.mp fun hlt => hv (.inr hlt)))

theorem readParamReply_after (identifier : Byte) (s : State) : (readParamReply identifier s).after = s := by
  unfold readParamReply
  split <;> rfl

theorem readRegionReply_after (f : Frame) (s : State) : (readRegionReply f s).after = s := by
  unfold readRegionReply
  split <;> rfl

theorem readJournalReply_after (position : Nat) (s : State) : (readJournalReply position s).after = s := by
  unfold readJournalReply
  split <;> rfl

theorem clearEventsReply_after (f : Frame) (mask : BitVec 16) (s : State) :
    (clearEventsReply mask s).after = s ∨ Execution (.clearEvents f) s (clearEventsReply mask s).after := by
  unfold clearEventsReply
  split
  · exact .inl rfl
  · exact .inr (.clearEvents f _)

/-- An accepted STAGE-REGION stages a valid entry whose limit is not below its base (R30). -/
theorem stageArguments_eq_some {f : Frame} {i : RegionIndex} {e : RegionEntry} (h : stageArguments f = some (i, e)) :
    e.valid = true ∧ e.base ≤ e.limit := by
  unfold stageArguments at h
  split at h
  · split at h
    · simp only [Option.some.injEq, Prod.mk.injEq] at h
      obtain ⟨-, rfl⟩ := h
      exact ⟨rfl, ‹_›⟩
    · cases h
  · cases h

theorem stageRegionReply_after (f : Frame) (s : State) :
    (stageRegionReply f s).after = s ∨ Execution (.stageRegion f) s (stageRegionReply f s).after := by
  unfold stageRegionReply
  split
  · exact .inl rfl
  · rename_i i e he
    obtain ⟨hv, hle⟩ := stageArguments_eq_some he
    exact .inr (.stageRegion f i e hv hle)

theorem clearStagedReply_after (f : Frame) (s : State) :
    (clearStagedReply f s).after = s ∨ Execution (.clearStaged f) s (clearStagedReply f s).after := by
  unfold clearStagedReply
  split
  · exact .inl rfl
  · exact .inr (.clearStaged f _)

theorem applyRegionsReply_after (f : Frame) (s : State) :
    (applyRegionsReply s).after = s ∨ Execution (.applyRegions f) s (applyRegionsReply s).after := by
  unfold applyRegionsReply
  split
  · exact .inl rfl
  · split
    · exact .inl rfl
    · exact .inr (.applyRegions f)

theorem setRegionStateReply_after (f : Frame) (s : State) :
    (setRegionStateReply f s).after = s ∨ Execution (.setRegionState f) s (setRegionStateReply f s).after := by
  unfold setRegionStateReply
  split
  · exact .inr (.setRegionState f _ _)
  · exact .inl rfl

/-- BUSY is answered in DRAIN and RESTORE, so what passes that check meets an engine IDLE or FAILED. -/
theorem engineBusy_eq_false {s : State} : engineBusy s = false ↔ s.engine.state = .idle ∨ s.engine.state = .failed := by
  unfold engineBusy
  cases s.engine.state <;> simp

theorem markReply_after (f : Frame) {s : State} (hready : s.journal.readiness = .ready) :
    (markReply s).after = s ∨ Execution (.mark f) s (markReply s).after := by
  unfold markReply
  split
  · exact .inl rfl
  · rename_i hbusy
    split
    · exact .inl rfl
    · rename_i hfailed
      split
      · exact .inl rfl
      · rename_i hroom
        rw [Bool.not_eq_true, engineBusy_eq_false] at hbusy
        exact .inr (.mark f hready (hbusy.resolve_right hfailed) (not_le.mp hroom))

theorem releaseReply_after (f : Frame) (n : Nat) {s : State} (hready : s.journal.readiness = .ready) :
    (releaseReply n s).after = s ∨ Execution (.release f) s (releaseReply n s).after := by
  unfold releaseReply
  split
  · exact .inl rfl
  · rename_i hbusy
    split
    · exact .inl rfl
    · rename_i hfailed
      split
      · exact .inl rfl
      · split
        · exact .inl rfl
        · rename_i hn
          rw [Bool.not_eq_true, engineBusy_eq_false] at hbusy
          exact .inr (.release f n hready (hbusy.resolve_right hfailed) (by omega))

/-- The place that a ROLLBACK's epoch names holds a checkpoint (R94). -/
theorem findCheckpoint_eq_some {epoch : Epoch} {s : State} {k : Nat} (h : findCheckpoint epoch s = some k) :
    ∃ target, s.stack.checkpoints[k]? = some target := by
  unfold findCheckpoint at h
  split at h
  · cases h
  · obtain ⟨hk, -⟩ := List.findIdx?_eq_some_iff_getElem.mp h
    exact ⟨_, List.getElem?_eq_getElem hk⟩

theorem rollbackReply_after (f : Frame) (epoch : Epoch) {s : State} (hready : s.journal.readiness = .ready) :
    (rollbackReply epoch s).after = s ∨ Execution (.rollback f) s (rollbackReply epoch s).after := by
  unfold rollbackReply
  split
  · exact .inl rfl
  · rename_i hbusy
    split
    · exact .inl rfl
    · rename_i k hk
      obtain ⟨target, htarget⟩ := findCheckpoint_eq_some hk
      rw [Bool.not_eq_true, engineBusy_eq_false] at hbusy
      exact .inr (.rollback f k target hready hbusy htarget)

theorem discardReply_after (f : Frame) {s : State} (hready : s.journal.readiness = .ready) :
    (discardReply s).after = s ∨ Execution (.discard f) s (discardReply s).after := by
  unfold discardReply
  split
  · exact .inl rfl
  · rename_i hbusy
    rw [Bool.not_eq_true, engineBusy_eq_false] at hbusy
    exact .inr (.discard f hready hbusy)

theorem effect_softReset (f : Frame) (s : State) :
    Effect (.softReset f) s
      (receiveFrame f
        (fun s => if f.payload.length ≠ 0 then respond f.toggle .badLength [] s else beginSoftReset f.toggle s) s) := by
  refine effect_receiveFrame (isPeriod_of_frameOf rfl) (frame_unique rfl) fun hr _ => ?_
  split
  · exact effect_respond rfl _ _
  · exact .softReset f hr

theorem effect_unknownCommand (code : BitVec 7) (f : Frame) (s : State) :
    Effect (.unknownCommand code f) s
      (receiveFrame f (fun s => if isKnownCode code then s else respond f.toggle .unknown [] s) s) := by
  refine effect_receiveFrame (isPeriod_of_frameOf rfl) (frame_unique rfl) fun _ _ => ?_
  split
  · exact .nothing
  · exact effect_respond rfl _ _

theorem effect_fetchPeriod {start : PeriodStart} {clocked : Nat} {s t : State}
    (h : exec (.fetchPeriod start clocked) s = .next t) : Effect (.fetchPeriod start clocked) s t := by
  have hperiod : IsPeriod (.fetchPeriod start clocked) := .inr (.inr (.inr ⟨_, _, rfl⟩))
  obtain rfl := Host.Outcome.next.inj h
  unfold whilePowered
  split
  · cases start with
    | acrossPorn => exact .nothing
    | inQuiesce => exact .link _ hperiod rfl nofun
    | live =>
      dsimp only
      split
      · exact .link _ hperiod rfl nofun
      · exact .link _ hperiod rfl nofun
  · exact .nothing

/-! ## The events of the other ports and of the clock -/

/-- An event that happens only under power. -/
theorem effect_whilePowered {c : Instr} {s : State} {act : State → State} (h : s.porn = true → Effect c s (act s)) :
    Effect c s (whilePowered act s) := by
  unfold whilePowered
  split
  · exact h ‹_›
  · exact .nothing

/-- An event that happens only when it is due. -/
theorem effect_ite {c : Instr} {s t : State} {p : Prop} [Decidable p] (h : p → Effect c s t) :
    Effect c s (if p then t else s) := by
  split
  · exact h ‹_›
  · exact .nothing

theorem effect_responseTaken {s t : State} (h : exec .responseTaken s = .next t) : Effect .responseTaken s t := by
  obtain rfl := Host.Outcome.next.inj h
  refine effect_whilePowered fun hp => ?_
  split
  · exact .nothing
  · split
    · exact .nothing
    · exact .responseTaken _ _ _ hp ‹_› ‹_›

theorem effect_answer {identity : Fin 16} {a : MemAnswer} {s t : State} (h : exec (.answer identity a) s = .next t) :
    Effect (.answer identity a) s t := by
  obtain rfl := Host.Outcome.next.inj h
  refine effect_whilePowered fun hp => ?_
  split
  · exact .nothing
  · split
    · exact .nothing
    · split
      · exact .nothing
      · exact .hostAnswer _ _ _ _ hp ‹_›
    · split
      · exact .nothing
      · exact effect_ite fun ho => .restoreAnswer _ _ _ hp ‹_› ho

/-- The automatic rollback has a target, since a checkpoint is open (R114, R141). -/
theorem deadlineTarget_of_due {s : State} (h : secondExpiryDue s = true) :
    ∃ target, s.stack.checkpoints[deadlineTarget s]? = some target := by
  have hdepth : 1 ≤ depth s := by simp_all [secondExpiryDue]
  have hlt : deadlineTarget s < s.stack.checkpoints.length := by
    unfold deadlineTarget
    unfold depth at hdepth ⊢
    split <;> omega
  exact ⟨_, List.getElem?_eq_getElem hlt⟩

theorem effect_secondExpiry {s t : State} (h : exec .secondExpiry s = .next t) : Effect .secondExpiry s t := by
  obtain rfl := Host.Outcome.next.inj h
  refine effect_whilePowered fun hp => effect_ite fun hd => ?_
  obtain ⟨target, htarget⟩ := deadlineTarget_of_due hd
  exact .secondExpiry _ target hp hd htarget

/-- Every command has one of the effects listed. -/
theorem effect_of_exec {c : Instr} {s t : State} (h : exec c s = .next t) : Effect c s t := by
  cases c with
  | takeRequest r =>
    obtain rfl := Host.Outcome.next.inj h
    exact effect_ite fun hc => .takeRequest r hc
  | responseTaken => exact effect_responseTaken h
  | examination =>
    obtain rfl := Host.Outcome.next.inj h
    split
    · exact .nothing
    · exact .examination _ ‹_›
  | waitExpiry place =>
    obtain rfl := Host.Outcome.next.inj h
    exact effect_ite fun hd => .waitExpiry place hd
  | issueGrant =>
    obtain rfl := Host.Outcome.next.inj h
    exact effect_whilePowered fun hp => effect_ite fun _ => .issueGrant hp
  | operationAccepted =>
    obtain rfl := Host.Outcome.next.inj h
    refine effect_whilePowered fun hp => ?_
    split
    · exact .nothing
    · exact .operationAccepted _ hp
  | answer identity a => exact effect_answer h
  | pornAssert =>
    obtain rfl := Host.Outcome.next.inj h
    exact effect_whilePowered fun hp => .pornAssert hp
  | pornRelease =>
    obtain rfl := Host.Outcome.next.inj h
    split
    · exact .nothing
    · exact .pornRelease (by simpa using ‹¬s.porn = true›)
  | quietIntervalEnd =>
    obtain rfl := Host.Outcome.next.inj h
    exact effect_ite fun hd => .quietIntervalEnd hd
  | journalReady =>
    obtain rfl := Host.Outcome.next.inj h
    exact effect_ite fun hd => .journalReady hd
  | firstExpiry =>
    obtain rfl := Host.Outcome.next.inj h
    exact effect_whilePowered fun hp => effect_ite fun hd => .firstExpiry hp hd
  | secondExpiry => exact effect_secondExpiry h
  | frameError start bits =>
    obtain rfl := Host.Outcome.next.inj h
    exact effect_ite fun _ => .link _ (.inr (.inl ⟨_, _, rfl⟩)) rfl nofun
  | repeatFrame code f =>
    obtain rfl := Host.Outcome.next.inj h
    exact effect_receiveFrame (.inr (.inr (.inl ⟨_, _, rfl⟩))) nofun fun _ _ => .nothing
  | fetchPeriod start clocked => exact effect_fetchPeriod h
  | unknownCommand code f =>
    obtain rfl := Host.Outcome.next.inj h
    exact effect_unknownCommand code f s
  | identify f | readStatus f | readEvents f | readCapture f | readCheckpoints f =>
    obtain rfl := Host.Outcome.next.inj h
    exact effect_read rfl rfl
  | readParam f =>
    obtain rfl := Host.Outcome.next.inj h
    exact effect_read rfl (readParamReply_after _ s)
  | readRegion f =>
    obtain rfl := Host.Outcome.next.inj h
    exact effect_read rfl (readRegionReply_after f s)
  | readJournal f =>
    obtain rfl := Host.Outcome.next.inj h
    exact effect_read rfl (readJournalReply_after _ s)
  | clearEvents f =>
    obtain rfl := Host.Outcome.next.inj h
    exact effect_execCommand rfl fun _ => clearEventsReply_after f _ s
  | ackCapture f =>
    obtain rfl := Host.Outcome.next.inj h
    exact effect_execCommand rfl fun _ => .inr (.ackCapture f)
  | writeDefaultPolicy f =>
    obtain rfl := Host.Outcome.next.inj h
    exact effect_writeParam rfl fun v _ => .writeDefaultPolicy f v
  | writeFullAction f =>
    obtain rfl := Host.Outcome.next.inj h
    exact effect_writeParam rfl fun v _ => .writeFullAction f v
  | writeJhighLevel f =>
    obtain rfl := Host.Outcome.next.inj h
    exact effect_writeParam rfl fun v hv => .writeJhighLevel f v hv
  | writeWaitLimit f =>
    obtain rfl := Host.Outcome.next.inj h
    exact effect_writeParam rfl fun v hv => .writeWaitLimit f v hv
  | writeDlEnable f =>
    obtain rfl := Host.Outcome.next.inj h
    exact effect_writeParam rfl fun v _ => .writeDlEnable f v
  | writeDlPeriod f =>
    obtain rfl := Host.Outcome.next.inj h
    exact effect_writeParam rfl fun v hv => .writeDlPeriod f v hv
  | writeDlTarget f =>
    obtain rfl := Host.Outcome.next.inj h
    exact effect_writeParam rfl fun v _ => .writeDlTarget f v
  | writeEventEnable f =>
    obtain rfl := Host.Outcome.next.inj h
    exact effect_writeParam rfl fun v _ => .writeEventEnable f v
  | stageRegion f =>
    obtain rfl := Host.Outcome.next.inj h
    exact effect_execCommand rfl fun _ => stageRegionReply_after f s
  | clearStaged f =>
    obtain rfl := Host.Outcome.next.inj h
    exact effect_execCommand rfl fun _ => clearStagedReply_after f s
  | revertStaged f =>
    obtain rfl := Host.Outcome.next.inj h
    exact effect_execCommand rfl fun _ => .inr (.revertStaged f)
  | applyRegions f =>
    obtain rfl := Host.Outcome.next.inj h
    exact effect_execCommand rfl fun _ => applyRegionsReply_after f s
  | setRegionState f =>
    obtain rfl := Host.Outcome.next.inj h
    exact effect_execCommand rfl fun _ => setRegionStateReply_after f s
  | mark f =>
    obtain rfl := Host.Outcome.next.inj h
    exact effect_execCommand rfl fun hready => markReply_after f (hready rfl)
  | release f =>
    obtain rfl := Host.Outcome.next.inj h
    exact effect_execCommand rfl fun hready => releaseReply_after f _ (hready rfl)
  | rollback f =>
    obtain rfl := Host.Outcome.next.inj h
    exact effect_execCommand rfl fun hready => rollbackReply_after f _ (hready rfl)
  | discard f =>
    obtain rfl := Host.Outcome.next.inj h
    exact effect_execCommand rfl fun hready => discardReply_after f (hready rfl)
  | softReset f =>
    obtain rfl := Host.Outcome.next.inj h
    exact effect_softReset f s
  | softResetStep4 =>
    obtain rfl := Host.Outcome.next.inj h
    exact effect_whilePowered fun hp => .softResetStep4 hp

/-! ## The step -/

/-- Every command answers a next state. -/
theorem exec_next (c : Instr) (s : State) : ∃ t, exec c s = .next t := by
  cases c <;> exact ⟨_, rfl⟩

/-- A step is the effect of one command on the part, or 1 µs when no time-driven event is due. -/
theorem step_cases {s t : State} (h : step s = .next t) :
    (∃ c p, Effect c { s with pending := p } t) ∨ dueEvent s = none ∧ t = tick s := by
  unfold step at h
  split at h
  · exact .inl ⟨_, _, effect_of_exec h⟩
  · split at h
    · exact .inl ⟨_, s.pending, effect_of_exec h⟩
    · exact .inr ⟨‹_›, (Host.Outcome.next.inj h).symm⟩

/-- The induction of every step lemma: what the effects keep, and the passing of 1 µs keeps, every step keeps. -/
theorem step_keeps {P : State → Prop} (hqueue : ∀ s p, P s → P { s with pending := p })
    (heffect : ∀ c s t, P s → Effect c s t → P t) (htick : ∀ s, P s → dueEvent s = none → P (tick s)) {s t : State}
    (hs : P s) (h : step s = .next t) : P t := by
  rcases step_cases h with ⟨c, p, he⟩ | ⟨hd, rfl⟩
  · exact heffect c _ t (hqueue s p hs) he
  · exact htick s hs hd

end Sys2Proof.Machine
end

section
/-!
PROOFS. What the shared operations keep of the blocks that they do change: the requests of the wait list, the capture
record, the host entries, the epochs of the checkpoints, LOSTRB and the stopping mark.
-/

namespace Sys2Proof.Machine

/-! ## The requests of the wait list -/

/-- The requests that the wait list holds, in its order (R52). -/
def waitRequests (s : State) : List Request := s.admission.waitList.map WaitEntry.request

theorem waitRequests_length (s : State) : (waitRequests s).length = s.admission.waitList.length := List.length_map _

@[simp] theorem markReleased_request (e : WaitEntry) : (markReleased e).request = e.request := by
  unfold markReleased
  split <;> rfl

@[simp] theorem releaseBehind_request (line : LineAddr) (e : WaitEntry) : (releaseBehind line e).request = e.request := by
  unfold releaseBehind
  split <;> simp

/-- A map that keeps the request of each entry keeps the requests. -/
theorem map_request_eq {g : WaitEntry → WaitEntry} (h : ∀ e, (g e).request = e.request) (l : List WaitEntry) :
    (l.map g).map WaitEntry.request = l.map WaitEntry.request := by
  rw [List.map_map]
  exact List.map_congr_left fun e _ => h e

/-- The wait list but for the released marks (R52, R54). -/
def unmarked (s : State) : List WaitEntry := s.admission.waitList.map fun e => { e with released := false }

theorem unmarked_map_request (s : State) : (unmarked s).map WaitEntry.request = waitRequests s :=
  map_request_eq (g := fun e => { e with released := false }) (fun _ => rfl) _

theorem waitRequests_of_unmarked {s t : State} (h : unmarked t = unmarked s) : waitRequests t = waitRequests s := by
  rw [← unmarked_map_request, ← unmarked_map_request, h]

/-- Writing an entry that holds the same request keeps the requests. -/
theorem map_request_set {l : List WaitEntry} {k : Nat} {e e' : WaitEntry} (hk : l[k]? = some e)
    (h : e'.request = e.request) : (l.set k e').map WaitEntry.request = l.map WaitEntry.request := by
  obtain ⟨hlt, rfl⟩ := List.getElem?_eq_some_iff.mp hk
  rw [List.map_set, h, ← List.getElem_map WaitEntry.request (h := by simpa using hlt)]
  exact List.set_getElem_self _

@[simp] theorem release_unmarked (c : Clearing) (s : State) : unmarked (release c s) = unmarked s := by
  unfold unmarked release
  rw [List.map_map]
  refine List.map_congr_left fun e _ => ?_
  simp only [Function.comp_apply, markReleased]
  split
  · split <;> rfl
  · rfl

@[simp] theorem release_waitRequests (c : Clearing) (s : State) : waitRequests (release c s) = waitRequests s :=
  waitRequests_of_unmarked (release_unmarked c s)

@[simp] theorem signalFall_unmarked (n : Nat) (s : State) : unmarked (signalFall n s) = unmarked s := by
  unfold signalFall
  split <;> simp

@[simp] theorem signalFall_waitRequests (n : Nat) (s : State) : waitRequests (signalFall n s) = waitRequests s :=
  waitRequests_of_unmarked (signalFall_unmarked n s)

@[simp] theorem freeAtTail_unmarked (k : Nat) (s : State) : unmarked (freeAtTail k s) = unmarked s := by
  rw [freeAtTail, signalFall_unmarked]
  rfl

@[simp] theorem freeAtTail_waitRequests (k : Nat) (s : State) : waitRequests (freeAtTail k s) = waitRequests s :=
  waitRequests_of_unmarked (freeAtTail_unmarked k s)

@[simp] theorem restartTimer_unmarked (s : State) : unmarked (restartTimer s) = unmarked s := by
  simp [unmarked]

@[simp] theorem restartTimer_waitRequests (s : State) : waitRequests (restartTimer s) = waitRequests s :=
  waitRequests_of_unmarked (restartTimer_unmarked s)

@[simp] theorem setFlag_unmarked (f : Flag) (s : State) : unmarked (setFlag f s) = unmarked s := rfl

@[simp] theorem setFlag_waitRequests (f : Flag) (s : State) : waitRequests (setFlag f s) = waitRequests s :=
  waitRequests_of_unmarked (setFlag_unmarked f s)

@[simp] theorem completeRestore_unmarked (s : State) : unmarked (completeRestore s) = unmarked s := by
  rw [completeRestore, restartTimer_unmarked, release_unmarked]
  rfl

@[simp] theorem completeRestore_waitRequests (s : State) : waitRequests (completeRestore s) = waitRequests s :=
  waitRequests_of_unmarked (completeRestore_unmarked s)

@[simp] theorem handRestore_unmarked (s : State) : unmarked (handRestore s) = unmarked s := by
  simp [unmarked]

@[simp] theorem handRestore_waitRequests (s : State) : waitRequests (handRestore s) = waitRequests s :=
  waitRequests_of_unmarked (handRestore_unmarked s)

@[simp] theorem abandonEpochs_unmarked (epochs : List Epoch) (s : State) :
    unmarked (abandonEpochs epochs s) = unmarked s := by
  rw [abandonEpochs, signalFall_unmarked]
  rfl

@[simp] theorem abandonEpochs_waitRequests (epochs : List Epoch) (s : State) :
    waitRequests (abandonEpochs epochs s) = waitRequests s :=
  waitRequests_of_unmarked (abandonEpochs_unmarked epochs s)

@[simp] theorem settleRecord_unmarked (position : Nat) (a : MemAnswer) (s : State) :
    unmarked (settleRecord position a s) = unmarked s := by
  unfold settleRecord
  split
  · rfl
  · dsimp only
    split
    · rfl
    · rw [signalFall_unmarked]
      rfl

@[simp] theorem settleRecord_waitRequests (position : Nat) (a : MemAnswer) (s : State) :
    waitRequests (settleRecord position a s) = waitRequests s :=
  waitRequests_of_unmarked (settleRecord_unmarked position a s)

@[simp] theorem settleEntryRecord_unmarked (e : HostEntry) (a : MemAnswer) (s : State) :
    unmarked (settleEntryRecord e a s) = unmarked s := by
  unfold settleEntryRecord
  split <;> simp

@[simp] theorem settleEntryRecord_waitRequests (e : HostEntry) (a : MemAnswer) (s : State) :
    waitRequests (settleEntryRecord e a s) = waitRequests s :=
  waitRequests_of_unmarked (settleEntryRecord_unmarked e a s)

/-! ## The restore engine going on -/

/-- Everything that the engine can do in RESTORE: with no target nothing; else it frees the run of VOID records, and then is
complete, or turns to the record below them (R118, R119, R123). -/
theorem continueRestore_cases (s : State) :
    continueRestore s = s ∧ s.stack.checkpoints = [] ∨
      ∃ target, s.stack.checkpoints.getLast? = some target ∧
        (voidRun s.journal.ring target.distance = target.distance ∧
            continueRestore s = completeRestore (freeAtTail target.distance s) ∨
          voidRun s.journal.ring target.distance < target.distance ∧
            continueRestore s = handRestore (freeAtTail (voidRun s.journal.ring target.distance) s)) := by
  unfold continueRestore
  split
  · exact .inl ⟨rfl, List.getLast?_eq_none_iff.mp ‹_›⟩
  · rename_i target htarget
    refine .inr ⟨target, htarget, ?_⟩
    dsimp only
    split
    · rename_i hk
      exact .inl ⟨hk, by rw [hk]⟩
    · rename_i hk
      exact .inr ⟨lt_of_le_of_ne (voidRun_le _ _).1 hk, rfl⟩

/-- What completion, the handing out of a RESTORE and the freeing at the tail all keep, the engine going on in RESTORE keeps. -/
theorem continueRestore_keeps {α : Type} {view : State → α} (hfree : ∀ k s, view (freeAtTail k s) = view s)
    (hcomplete : ∀ s, view (completeRestore s) = view s) (hhand : ∀ s, view (handRestore s) = view s) (s : State) :
    view (continueRestore s) = view s := by
  rcases continueRestore_cases s with ⟨he, -⟩ | ⟨target, -, ⟨-, he⟩ | ⟨-, he⟩⟩ <;> rw [he]
  · rw [hcomplete, hfree]
  · rw [hhand, hfree]

/-- The same for the drain test. -/
theorem drainTest_keeps {α : Type} {view : State → α} (hfree : ∀ k s, view (freeAtTail k s) = view s)
    (hcomplete : ∀ s, view (completeRestore s) = view s) (hhand : ∀ s, view (handRestore s) = view s)
    (hstate : ∀ s, view { s with engine := { s.engine with state := .restore } } = view s) (s : State) :
    view (drainTest s) = view s := by
  rcases drainTest_cases s with ⟨he, -⟩ | ⟨-, -, -, he⟩ <;> rw [he]
  rw [continueRestore_keeps hfree hcomplete hhand, hstate]

@[simp] theorem continueRestore_unmarked (s : State) : unmarked (continueRestore s) = unmarked s :=
  continueRestore_keeps freeAtTail_unmarked completeRestore_unmarked handRestore_unmarked s

@[simp] theorem continueRestore_waitRequests (s : State) : waitRequests (continueRestore s) = waitRequests s :=
  waitRequests_of_unmarked (continueRestore_unmarked s)

@[simp] theorem drainTest_unmarked (s : State) : unmarked (drainTest s) = unmarked s :=
  drainTest_keeps freeAtTail_unmarked completeRestore_unmarked handRestore_unmarked (fun _ => rfl) s

@[simp] theorem drainTest_waitRequests (s : State) : waitRequests (drainTest s) = waitRequests s :=
  waitRequests_of_unmarked (drainTest_unmarked s)

/-! ## The capture record -/

@[simp] theorem setFlag_capture (f : Flag) (s : State) : (setFlag f s).events.capture = s.events.capture := rfl

@[simp] theorem completeRestore_capture (s : State) : (completeRestore s).events.capture = s.events.capture := by
  simp [completeRestore]

@[simp] theorem continueRestore_capture (s : State) : (continueRestore s).events.capture = s.events.capture :=
  continueRestore_keeps (view := fun s => s.events.capture) (by simp) (by simp) (by simp) s

@[simp] theorem drainTest_capture (s : State) : (drainTest s).events.capture = s.events.capture :=
  drainTest_keeps (view := fun s => s.events.capture) (by simp) (by simp) (by simp) (by simp) s

@[simp] theorem reserveRecord_capture (r : Request) (i : RegionIndex) (s : State) :
    (reserveRecord r i s).events.capture = s.events.capture := by
  rw [reserveRecord_eq]
  rfl

@[simp] theorem dispatch_capture (id : HostId) (region : Option RegionIndex) (journaled : Bool) (r : Request) (s : State) :
    (dispatch id region journaled r s).events.capture = s.events.capture := by
  unfold dispatch
  split <;> simp

@[simp] theorem noteFull_capture (v : Verdict) (s : State) : (noteFull v s).events.capture = s.events.capture := by
  unfold noteFull
  split <;> rfl

/-! ## The host entries -/

@[simp] theorem handRestore_hosts (s : State) : (handRestore s).tracker.hosts = s.tracker.hosts := by
  unfold handRestore
  repeat' split
  all_goals rfl

@[simp] theorem continueRestore_hosts (s : State) : (continueRestore s).tracker.hosts = s.tracker.hosts :=
  continueRestore_keeps (view := fun s => s.tracker.hosts) (by simp) (by simp) (by simp) s

@[simp] theorem drainTest_hosts (s : State) : (drainTest s).tracker.hosts = s.tracker.hosts :=
  drainTest_keeps (view := fun s => s.tracker.hosts) (by simp) (by simp) (by simp) (by simp) s

/-! ## The checkpoint stack -/

@[simp] theorem freeAtTail_checkpoints (k : Nat) (s : State) :
    (freeAtTail k s).stack.checkpoints = s.stack.checkpoints.map fun c => { c with distance := c.distance - k } := by
  simp [freeAtTail]

@[simp] theorem freeAtTail_nextEpoch (k : Nat) (s : State) : (freeAtTail k s).stack.nextEpoch = s.stack.nextEpoch := by
  simp [freeAtTail]

@[simp] theorem freeAtTail_depth (k : Nat) (s : State) : depth (freeAtTail k s) = depth s := by
  simp [depth]

@[simp] theorem completeRestore_depth (s : State) : depth (completeRestore s) = depth s := by simp [depth]

@[simp] theorem handRestore_depth (s : State) : depth (handRestore s) = depth s := by simp [depth]

@[simp] theorem continueRestore_depth (s : State) : depth (continueRestore s) = depth s :=
  continueRestore_keeps freeAtTail_depth completeRestore_depth handRestore_depth s

@[simp] theorem drainTest_depth (s : State) : depth (drainTest s) = depth s :=
  drainTest_keeps freeAtTail_depth completeRestore_depth handRestore_depth (fun _ => rfl) s

@[simp] theorem reserveRecord_depth (r : Request) (i : RegionIndex) (s : State) : depth (reserveRecord r i s) = depth s := by
  rw [reserveRecord_eq]
  simp [depth, withReservation]

/-! ## LOSTRB and the stopping mark -/

/-- The two engine fields that only a soft reset, a MARK and PORn move (R129, R131). -/
def resetMarks (s : State) : Bool × Bool := (s.engine.lostrb, s.engine.stopping)

@[simp] theorem freeAtTail_resetMarks (k : Nat) (s : State) : resetMarks (freeAtTail k s) = resetMarks s := by
  simp [resetMarks]

@[simp] theorem completeRestore_resetMarks (s : State) : resetMarks (completeRestore s) = resetMarks s := by
  simp [resetMarks, completeRestore]

@[simp] theorem handRestore_resetMarks (s : State) : resetMarks (handRestore s) = resetMarks s := by
  simp [resetMarks]

@[simp] theorem continueRestore_resetMarks (s : State) : resetMarks (continueRestore s) = resetMarks s :=
  continueRestore_keeps freeAtTail_resetMarks completeRestore_resetMarks handRestore_resetMarks s

@[simp] theorem drainTest_resetMarks (s : State) : resetMarks (drainTest s) = resetMarks s :=
  drainTest_keeps freeAtTail_resetMarks completeRestore_resetMarks handRestore_resetMarks (fun _ => rfl) s

@[simp] theorem acceptRollback_hosts (k : Nat) (s : State) : (acceptRollback k s).tracker.hosts = s.tracker.hosts := by
  unfold acceptRollback
  split <;> simp

/-- An expiry changes what an entry answers and its mark, not its request (R56). -/
@[simp] theorem expire_waitRequests (k : Nat) (s : State) : waitRequests (expire k s) = waitRequests s := by
  refine List.ext_getElem? fun i => ?_
  simp only [waitRequests, expire, setFlag_admission, bumpReady_admission, List.getElem?_map, List.getElem?_modify]
  cases s.admission.waitList[i]? with
  | none => simp
  | some e => by_cases hk : k = i <;> simp [hk]

/-! ## The selector and the retiring holder -/

/-- The selector touches nothing of the H-port but what it offers. -/
theorem offerNext_hport (s : State) : ∃ o, (offerNext s).hport = { s.hport with offered := o } := by
  rcases offerNext_cases s with ⟨he, -⟩ | ⟨-, h, -, n, he⟩ <;> rw [he]
  · exact ⟨s.hport.offered, rfl⟩
  · exact ⟨some h, rfl⟩

@[simp] theorem offerNext_taking (s : State) : (offerNext s).hport.taking = s.hport.taking := by
  obtain ⟨o, ho⟩ := offerNext_hport s
  rw [ho]

@[simp] theorem offerNext_intake (s : State) : (offerNext s).hport.intake = s.hport.intake := by
  obtain ⟨o, ho⟩ := offerNext_hport s
  rw [ho]

@[simp] theorem offerNext_outstanding (s : State) : (offerNext s).hport.outstanding = s.hport.outstanding := by
  obtain ⟨o, ho⟩ := offerNext_hport s
  rw [ho]

@[simp] theorem offerNext_unmarked (s : State) : unmarked (offerNext s) = unmarked s := by
  simp [unmarked]

@[simp] theorem offerNext_waitRequests (s : State) : waitRequests (offerNext s) = waitRequests s :=
  waitRequests_of_unmarked (offerNext_unmarked s)

@[simp] theorem offerNext_depth (s : State) : depth (offerNext s) = depth s := by simp [depth]

/-! ## The holders of responses -/

theorem answerOf_taking_iff {s : State} {r : Request} {a : Ready} :
    answerOf s .taking = some (r, a) ↔ s.hport.taking = some ⟨r, a⟩ := by
  simp only [answerOf, Option.map_eq_some_iff, Prod.mk.injEq]
  constructor
  · rintro ⟨⟨_, _⟩, ht, rfl, rfl⟩
    exact ht
  · exact fun ht => ⟨_, ht, rfl, rfl⟩

theorem answerOf_intakeHead_iff {s : State} {r : Request} {a : Ready} :
    answerOf s .intakeHead = some (r, a) ↔ ∃ rest, s.hport.intake = ⟨r, some a⟩ :: rest := by
  unfold answerOf
  cases s.hport.intake with
  | nil => simp
  | cons e rest =>
    obtain ⟨_, _⟩ := e
    simp [and_comm]

theorem answerOf_waiting_iff {s : State} {p : Pair} {r : Request} {a : Ready} :
    answerOf s (.waiting p) = some (r, a) ↔
      ∃ e, (s.admission.waitList.find? fun e => requestPair e.request = p) = some e ∧ e.request = r ∧
        e.answering = some a := by
  simp only [answerOf, Option.bind_eq_some_iff, Option.map_eq_some_iff, Prod.mk.injEq]
  constructor
  · rintro ⟨e, he, _, ha, rfl, rfl⟩
    exact ⟨e, he, rfl, ha⟩
  · rintro ⟨e, he, rfl, ha⟩
    exact ⟨e, he, a, ha, rfl, rfl⟩

theorem answerOf_host_iff {s : State} {id : HostId} {r : Request} {a : Ready} :
    answerOf s (.host id) = some (r, a) ↔
      ∃ e, (s.tracker.hosts.find? fun e => e.id = id) = some e ∧ e.request = r ∧ e.phase = .answer a := by
  simp only [answerOf, Option.bind_eq_some_iff]
  refine exists_congr fun e => and_congr_right fun _ => ?_
  cases e.phase <;> simp

/-- What a holder answers depends on the holders alone. -/
theorem answerOf_congr {s t : State} (htaking : t.hport.taking = s.hport.taking) (hintake : t.hport.intake = s.hport.intake)
    (hwait : t.admission.waitList = s.admission.waitList) (hhosts : t.tracker.hosts = s.tracker.hosts) :
    answerOf t = answerOf s := by
  funext h
  cases h <;> simp only [answerOf, htaking, hintake, hwait, hhosts]

/-- The request of a wait-list entry found by its pair stands at the first place that holds the pair. -/
theorem waitList_findIdx {l : List WaitEntry} {p : Pair} {e : WaitEntry}
    (h : (l.find? fun e => requestPair e.request = p) = some e) :
    l[l.findIdx fun e => requestPair e.request = p]? = some e ∧ requestPair e.request = p := by
  obtain ⟨hp, k, hk, rfl, hbefore⟩ := List.find?_eq_some_iff_getElem.mp h
  have hidx : (l.findIdx fun e => requestPair e.request = p) = k :=
    (List.findIdx_eq hk).mpr ⟨hp, fun j hj => by simpa using hbefore j hj⟩
  exact ⟨by rw [hidx, List.getElem?_eq_getElem hk], by simpa using hp⟩

@[simp] theorem dropPair_taking (p : Pair) (s : State) : (dropPair p s).hport.taking = s.hport.taking := rfl
@[simp] theorem dropPair_intake (p : Pair) (s : State) : (dropPair p s).hport.intake = s.hport.intake := rfl
@[simp] theorem dropPair_offered (p : Pair) (s : State) : (dropPair p s).hport.offered = s.hport.offered := rfl
@[simp] theorem dropPair_outstanding (p : Pair) (s : State) :
    (dropPair p s).hport.outstanding = s.hport.outstanding.erase p := rfl
@[simp] theorem dropPair_waitRequests (p : Pair) (s : State) : waitRequests (dropPair p s) = waitRequests s := rfl

@[simp] theorem unstall_waitList (h : Holder) (s : State) :
    (unstall h s).admission.waitList = s.admission.waitList := by
  unfold unstall
  split <;> rfl

@[simp] theorem unstall_waitRequests (h : Holder) (s : State) : waitRequests (unstall h s) = waitRequests s := by
  simp [waitRequests]

@[simp] theorem retireHost_waitRequests (id : HostId) (r : Request) (s : State) :
    waitRequests (retireHost id r s) = waitRequests s := by
  simp only [retireHost, drainTest_waitRequests, release_waitRequests]
  rfl

@[simp] theorem retireHost_capture (id : HostId) (r : Request) (s : State) :
    (retireHost id r s).events.capture = s.events.capture := by
  simp [retireHost]

@[simp] theorem retireHost_hosts (id : HostId) (r : Request) (s : State) :
    (retireHost id r s).tracker.hosts = s.tracker.hosts.filter fun e => e.id ≠ id := by
  simp [retireHost]

@[simp] theorem retireHost_depth (id : HostId) (r : Request) (s : State) : depth (retireHost id r s) = depth s := by
  rw [retireHost, drainTest_depth]
  rfl

@[simp] theorem retireHost_resetMarks (id : HostId) (r : Request) (s : State) :
    resetMarks (retireHost id r s) = resetMarks s := by
  rw [retireHost, drainTest_resetMarks]
  rfl

/-- The wait list once the entry at place `k` has left (R57). -/
theorem leaveWaitList_waitRequests {k : Nat} {e : WaitEntry} {s : State} (h : s.admission.waitList[k]? = some e) :
    waitRequests (leaveWaitList k s) = (waitRequests s).eraseIdx k := by
  simp only [waitRequests, leaveWaitList, h, List.map_append, map_request_eq (releaseBehind_request _),
    List.eraseIdx_eq_take_drop_succ, List.map_take, List.map_drop]

/-! ## The answers of the memory controller -/

/-- A host entry that has moved to another phase, and the number of the next ready event (R61, R62). -/
def entryMoved (e : HostEntry) (phase : Phase) (op : OpState) (n : Nat) (s : State) : State :=
  { setHost { e with phase := phase, op := op } s with readySeq := n }

@[simp] theorem entryMoved_porn (e : HostEntry) (phase : Phase) (op : OpState) (n : Nat) (s : State) :
    (entryMoved e phase op n s).porn = s.porn := rfl
@[simp] theorem entryMoved_now (e : HostEntry) (phase : Phase) (op : OpState) (n : Nat) (s : State) :
    (entryMoved e phase op n s).now = s.now := rfl
@[simp] theorem entryMoved_hport (e : HostEntry) (phase : Phase) (op : OpState) (n : Nat) (s : State) :
    (entryMoved e phase op n s).hport = s.hport := rfl
@[simp] theorem entryMoved_mport (e : HostEntry) (phase : Phase) (op : OpState) (n : Nat) (s : State) :
    (entryMoved e phase op n s).mport = s.mport := rfl
@[simp] theorem entryMoved_regions (e : HostEntry) (phase : Phase) (op : OpState) (n : Nat) (s : State) :
    (entryMoved e phase op n s).regions = s.regions := rfl
@[simp] theorem entryMoved_admission (e : HostEntry) (phase : Phase) (op : OpState) (n : Nat) (s : State) :
    (entryMoved e phase op n s).admission = s.admission := rfl
@[simp] theorem entryMoved_journal (e : HostEntry) (phase : Phase) (op : OpState) (n : Nat) (s : State) :
    (entryMoved e phase op n s).journal = s.journal := rfl
@[simp] theorem entryMoved_stack (e : HostEntry) (phase : Phase) (op : OpState) (n : Nat) (s : State) :
    (entryMoved e phase op n s).stack = s.stack := rfl
@[simp] theorem entryMoved_engine (e : HostEntry) (phase : Phase) (op : OpState) (n : Nat) (s : State) :
    (entryMoved e phase op n s).engine = s.engine := rfl
@[simp] theorem entryMoved_timer (e : HostEntry) (phase : Phase) (op : OpState) (n : Nat) (s : State) :
    (entryMoved e phase op n s).timer = s.timer := rfl
@[simp] theorem entryMoved_events (e : HostEntry) (phase : Phase) (op : OpState) (n : Nat) (s : State) :
    (entryMoved e phase op n s).events = s.events := rfl
@[simp] theorem entryMoved_params (e : HostEntry) (phase : Phase) (op : OpState) (n : Nat) (s : State) :
    (entryMoved e phase op n s).params = s.params := rfl
@[simp] theorem entryMoved_link (e : HostEntry) (phase : Phase) (op : OpState) (n : Nat) (s : State) :
    (entryMoved e phase op n s).link = s.link := rfl
@[simp] theorem entryMoved_choices (e : HostEntry) (phase : Phase) (op : OpState) (n : Nat) (s : State) :
    (entryMoved e phase op n s).choices = s.choices := rfl
@[simp] theorem entryMoved_pending (e : HostEntry) (phase : Phase) (op : OpState) (n : Nat) (s : State) :
    (entryMoved e phase op n s).pending = s.pending := rfl
@[simp] theorem entryMoved_restore (e : HostEntry) (phase : Phase) (op : OpState) (n : Nat) (s : State) :
    (entryMoved e phase op n s).tracker.restore = s.tracker.restore := rfl
@[simp] theorem entryMoved_depth (e : HostEntry) (phase : Phase) (op : OpState) (n : Nat) (s : State) :
    depth (entryMoved e phase op n s) = depth s := rfl
@[simp] theorem entryMoved_unmarked (e : HostEntry) (phase : Phase) (op : OpState) (n : Nat) (s : State) :
    unmarked (entryMoved e phase op n s) = unmarked s := rfl

@[simp] theorem entryMoved_waitRequests (e : HostEntry) (phase : Phase) (op : OpState) (n : Nat) (s : State) :
    waitRequests (entryMoved e phase op n s) = waitRequests s :=
  waitRequests_of_unmarked (entryMoved_unmarked e phase op n s)

@[simp] theorem settleEntryRecord_depth (e : HostEntry) (a : MemAnswer) (s : State) :
    depth (settleEntryRecord e a s) = depth s := by simp [depth]

/-- Everything that an answer to a host entry can do: nothing to an entry in ANSWER; else the entry moves on, and after a
PRE-READ the journal settles the record and the drain test follows (R61, R62). -/
theorem hostAnswered_cases (e : HostEntry) (a : MemAnswer) (s : State) :
    (∃ ready, e.phase = .answer ready) ∧ hostAnswered e a s = s ∨
      ∃ phase op n, (e.phase = .mem ∨ e.phase = .wr) ∧ hostAnswered e a s = entryMoved e phase op n s ∨
        e.phase = .pre ∧ hostAnswered e a s = drainTest (settleEntryRecord e a (entryMoved e phase op n s)) := by
  unfold hostAnswered
  cases hphase : e.phase with
  | mem => exact .inr ⟨_, .idle, s.readySeq + 1, .inl ⟨.inl rfl, rfl⟩⟩
  | wr => exact .inr ⟨_, .idle, s.readySeq + 1, .inl ⟨.inr rfl, rfl⟩⟩
  | pre =>
    cases a with
    | ok lanes => exact .inr ⟨.wr, .toIssue, s.readySeq, .inr ⟨rfl, rfl⟩⟩
    | error => exact .inr ⟨_, .idle, s.readySeq + 1, .inr ⟨rfl, rfl⟩⟩
  | answer ready => exact .inl ⟨⟨ready, rfl⟩, rfl⟩

@[simp] theorem failRestore_unmarked (s : State) : unmarked (failRestore s) = unmarked s := by
  rw [failRestore, release_unmarked]
  rfl

@[simp] theorem failRestore_waitRequests (s : State) : waitRequests (failRestore s) = waitRequests s :=
  waitRequests_of_unmarked (failRestore_unmarked s)
@[simp] theorem failRestore_capture (s : State) : (failRestore s).events.capture = s.events.capture := rfl
@[simp] theorem failRestore_depth (s : State) : depth (failRestore s) = depth s := rfl

/-- Everything that the answer to a RESTORE can do (R120 to R122, R129). -/
theorem restoreAnswered_cases (e : RestoreEntry) (a : MemAnswer) (s : State) :
    s.engine.stopping = true ∧
        restoreAnswered e a s = freeAtTail 1 { s with engine := { s.engine with retry := false } } ∨
      s.engine.stopping = false ∧
        restoreAnswered e a s = continueRestore (freeAtTail 1 { s with engine := { s.engine with retry := false } }) ∨
      s.engine.stopping = true ∧ restoreAnswered e a s = { s with engine := { s.engine with retry := false } } ∨
      s.engine.stopping = false ∧ restoreAnswered e a s = failRestore s ∨
      s.engine.stopping = false ∧ restoreAnswered e a s =
        { s with
          engine := { s.engine with retry := true }
          tracker := { s.tracker with restore := some { e with op := .toIssue } } } := by
  unfold restoreAnswered
  cases hstop : s.engine.stopping <;> cases a <;> cases hretry : s.engine.retry <;> simp

/-! ## An examination -/

@[simp] theorem addHost_depth (id : HostId) (kind : EntryKind) (phase : Phase) (r : Request) (region : Option RegionIndex)
    (s : State) : depth (addHost id kind phase r region s) = depth s := rfl

@[simp] theorem addHost_unmarked (id : HostId) (kind : EntryKind) (phase : Phase) (r : Request)
    (region : Option RegionIndex) (s : State) : unmarked (addHost id kind phase r region s) = unmarked s := rfl

@[simp] theorem addHost_waitRequests (id : HostId) (kind : EntryKind) (phase : Phase) (r : Request)
    (region : Option RegionIndex) (s : State) : waitRequests (addHost id kind phase r region s) = waitRequests s :=
  waitRequests_of_unmarked (addHost_unmarked id kind phase r region s)

@[simp] theorem addHost_hosts (id : HostId) (kind : EntryKind) (phase : Phase) (r : Request) (region : Option RegionIndex)
    (s : State) : (addHost id kind phase r region s).tracker.hosts =
      s.tracker.hosts ++ [{ id := id, kind := kind, phase := phase, op := .toIssue, request := r, region := region }] := rfl

@[simp] theorem addHost_restore (id : HostId) (kind : EntryKind) (phase : Phase) (r : Request) (region : Option RegionIndex)
    (s : State) : (addHost id kind phase r region s).tracker.restore = s.tracker.restore := rfl

@[simp] theorem noteFull_depth (v : Verdict) (s : State) : depth (noteFull v s) = depth s := by simp [depth]

@[simp] theorem noteFull_unmarked (v : Verdict) (s : State) : unmarked (noteFull v s) = unmarked s := by
  simp [unmarked]

@[simp] theorem noteFull_waitRequests (v : Verdict) (s : State) : waitRequests (noteFull v s) = waitRequests s :=
  waitRequests_of_unmarked (noteFull_unmarked v s)

@[simp] theorem dispatch_unmarked (id : HostId) (region : Option RegionIndex) (journaled : Bool) (r : Request)
    (s : State) : unmarked (dispatch id region journaled r s) = unmarked s := by
  simp [unmarked]

@[simp] theorem dispatch_waitRequests (id : HostId) (region : Option RegionIndex) (journaled : Bool) (r : Request)
    (s : State) : waitRequests (dispatch id region journaled r s) = waitRequests s :=
  waitRequests_of_unmarked (dispatch_unmarked id region journaled r s)

@[simp] theorem leaveWaitList_depth (k : Nat) (s : State) : depth (leaveWaitList k s) = depth s := by simp [depth]

/-! ## The executions of the link's commands -/

@[simp] theorem promote_unmarked (s : State) : unmarked (promote s) = unmarked s :=
  release_unmarked .everything { s with regions := { s.regions with active := s.regions.staged, dirty := false } }

@[simp] theorem promote_waitRequests (s : State) : waitRequests (promote s) = waitRequests s :=
  waitRequests_of_unmarked (promote_unmarked s)

@[simp] theorem storeFullAction_unmarked (v : Nat) (s : State) : unmarked (storeFullAction v s) = unmarked s := by
  unfold storeFullAction
  dsimp only
  split
  · exact release_unmarked .journal _
  · rfl

@[simp] theorem storeFullAction_waitRequests (v : Nat) (s : State) : waitRequests (storeFullAction v s) = waitRequests s :=
  waitRequests_of_unmarked (storeFullAction_unmarked v s)

@[simp] theorem setSoftwareState_unmarked (i : RegionIndex) (v : SoftwareState) (s : State) :
    unmarked (setSoftwareState i v s) = unmarked s := by
  unfold setSoftwareState
  dsimp only
  split
  · rfl
  · exact release_unmarked (.softwareState i) _

@[simp] theorem setSoftwareState_waitRequests (i : RegionIndex) (v : SoftwareState) (s : State) :
    waitRequests (setSoftwareState i v s) = waitRequests s :=
  waitRequests_of_unmarked (setSoftwareState_unmarked i v s)

@[simp] theorem acceptMark_unmarked (s : State) : unmarked (acceptMark s) = unmarked s := by
  change unmarked (restartTimer (promoteIfDirty (pushCheckpoint s))) = unmarked s
  rw [restartTimer_unmarked, promoteIfDirty]
  split
  · exact promote_unmarked _
  · rfl

@[simp] theorem acceptMark_waitRequests (s : State) : waitRequests (acceptMark s) = waitRequests s :=
  waitRequests_of_unmarked (acceptMark_unmarked s)

@[simp] theorem acceptRelease_unmarked (n : Nat) (s : State) : unmarked (acceptRelease n s) = unmarked s := by
  rw [acceptRelease, release_unmarked]
  simp only [unmarked, timerAfterRelease_admission]
  exact abandonEpochs_unmarked _ _

@[simp] theorem acceptRelease_waitRequests (n : Nat) (s : State) : waitRequests (acceptRelease n s) = waitRequests s :=
  waitRequests_of_unmarked (acceptRelease_unmarked n s)

@[simp] theorem acceptRollback_unmarked (k : Nat) (s : State) : unmarked (acceptRollback k s) = unmarked s := by
  unfold acceptRollback
  split
  · rfl
  · rw [drainTest_unmarked]
    simp [unmarked]

@[simp] theorem acceptRollback_waitRequests (k : Nat) (s : State) : waitRequests (acceptRollback k s) = waitRequests s :=
  waitRequests_of_unmarked (acceptRollback_unmarked k s)

@[simp] theorem acceptDiscard_unmarked (s : State) : unmarked (acceptDiscard s) = unmarked s := by
  change unmarked (release .journal (stopTimer _)) = unmarked s
  rw [release_unmarked]
  exact abandonEpochs_unmarked _ _

@[simp] theorem acceptDiscard_waitRequests (s : State) : waitRequests (acceptDiscard s) = waitRequests s :=
  waitRequests_of_unmarked (acceptDiscard_unmarked s)

/-- No execution changes the requests of the wait list. -/
theorem Execution.unmarked_eq {c : Instr} {s u : State} (h : Execution c s u) : unmarked u = unmarked s := by
  cases h with
  | writeDefaultPolicy f v => exact release_unmarked .everything _
  | writeDlEnable f v => simp [unmarked]
  | clearEvents | ackCapture | writeJhighLevel | writeWaitLimit | writeDlPeriod | writeDlTarget | writeEventEnable => rfl
  | stageRegion | clearStaged | revertStaged => rfl
  | writeFullAction | applyRegions | setRegionState | mark | release | rollback | discard => simp

theorem Execution.waitRequests_eq {c : Instr} {s u : State} (h : Execution c s u) : waitRequests u = waitRequests s :=
  waitRequests_of_unmarked h.unmarked_eq

/-- No execution changes the H-port. -/
theorem Execution.hport_eq {c : Instr} {s u : State} (h : Execution c s u) : u.hport = s.hport := by
  cases h <;> simp

/-- No execution changes the host entries. -/
theorem Execution.hosts_eq {c : Instr} {s u : State} (h : Execution c s u) : u.tracker.hosts = s.tracker.hosts := by
  cases h <;> simp

/-! ## Step 4 -/

/-- What holds of the part after step 4, and held before it, holds after the settling of a quiesce. -/
theorem settleQuiesce_keeps {P : State → Prop} {s : State} (hs : P s) (hreset : ∀ toggle, P (softResetValues toggle s)) :
    P (settleQuiesce s) := by
  rcases settleQuiesce_cases s with he | ⟨toggle, -, -, he⟩ <;> rw [he]
  · exact hs
  · exact hreset toggle

end Sys2Proof.Machine
end

section
/-!
PROOFS. What an examination that dispatches has found: the converse of examine_of_dispatchedBy, in the terms of Safety.lean
(R42 to R48). From it: no record is reserved while the restore engine is busy or failed, and the locks of R44 and R45.
-/

namespace Sys2Proof.Machine

/-- A dispatch passes checks 4 and 5 (R44, R45). -/
theorem passesEngine_of_checks {s : State} {r : Request} {region : Option RegionIndex} {needs : Bool}
    (hn : needs = true ↔ needsNewRecord s r region)
    (hfailed : ¬(s.engine.state = .failed ∧ (findsLive s.journal (requestLine r) = true ∨ needs = true)))
    (hbusy : ¬((s.engine.state = .drain ∨ s.engine.state = .restore) ∧
      (findsInSpan s (requestLine r) = true ∨ needs = true))) : passesEngine s r region := by
  rw [findsLive_iff, hn] at hfailed
  rw [findsInSpan_iff, hn] at hbusy
  unfold passesEngine
  cases hstate : s.engine.state <;> simp_all

/-- A dispatch from check 4 on: the request passes the engine's checks, its line is free, the identity is the lowest free one,
and there is room for a record that it needs (R42, R44 to R48). -/
theorem examineLater_eq_dispatch {s : State} {r : Request} {region region' : Option RegionIndex} {needs journaled : Bool}
    {earlier : List WaitEntry} {id : HostId} (hn : needs = true ↔ needsNewRecord s r region)
    (h : examineLater s r region needs earlier = .dispatch id region' journaled) :
    region' = region ∧ journaled = needs ∧ passesEngine s r region ∧ lineIsFree s (requestLine r) earlier ∧
      lowestFree s id ∧ (needs = true → occupancy s.journal < 1024) := by
  unfold examineLater at h
  split at h
  · cases h
  · rename_i hfailed
    split at h
    · cases h
    · rename_i hbusy
      split at h
      · cases h
      · rename_i hline
        split at h
        · cases h
        · rename_i id' hid
          split at h
          · split at h <;> cases h
          · rename_i hroom
            obtain ⟨rfl, rfl, rfl⟩ := Verdict.dispatch.inj h
            refine ⟨rfl, rfl, passesEngine_of_checks hn hfailed hbusy, ?_, freeIdentity_eq_some.mp hid, fun hneeds => ?_⟩
            · rw [← lineBusy_iff]
              simpa using hline
            · exact not_le.mp fun hle => hroom ⟨hneeds, hle⟩

/-- A request that the region unit passed on, and that check 9 dispatches. -/
theorem dispatchedBy_of_examineLater {s : State} {r : Request} {earlier : List WaitEntry} {id : HostId}
    {region region' : Option RegionIndex} {needs journaled : Bool} (hunit : passesRegionUnit s r region')
    (hn : needs = true ↔ needsNewRecord s r region')
    (h : examineLater s r region' needs earlier = .dispatch id region journaled) :
    dispatchedBy s r earlier id region ∧ (journaled = true ↔ needsNewRecord s r region) := by
  obtain ⟨rfl, rfl, hengine, hline, hid, hroom⟩ := examineLater_eq_dispatch hn h
  exact ⟨⟨hunit, hengine, hline, hid, fun hneeds => hroom (hn.mpr hneeds)⟩, hn⟩

/-- An examination dispatches only a request that passes every check, journaled exactly when it needs a record (R42, R48). -/
theorem dispatchedBy_of_examine {s : State} {r : Request} {earlier : List WaitEntry} {id : HostId}
    {region : Option RegionIndex} {journaled : Bool} (h : examine s r earlier = .dispatch id region journaled) :
    dispatchedBy s r earlier id region ∧ (journaled = true ↔ needsNewRecord s r region) := by
  unfold examine at h
  split at h
  · rename_i hmatch
    split at h
    · cases h
    · rename_i hpolicy
      exact dispatchedBy_of_examineLater (region' := none) ⟨matchLine_eq_none.mp hmatch, hpolicy⟩
        (by simp [not_needsNewRecord_none]) h
  · rename_i i hmatch
    split at h
    · cases h
    · rename_i hmask
      split at h
      · cases h
      · rename_i hmode
        split at h
        · cases h
        · cases h
        · rename_i hopened
          have hmodeAdmits : modeAdmits s r i := by
            intro hro
            cases hkind : r.kind with
            | read => rfl
            | write => exact absurd ⟨hro, hkind⟩ hmode
          exact dispatchedBy_of_examineLater (region' := some i)
            ⟨matchLine_eq_some.mp hmatch, by simpa [maskAdmits] using hmask, hmodeAdmits, hopened⟩ (needsRecord_iff s r i) h

/-- A request that needs a record passes the engine's checks only while the engine is IDLE (R44, R45, R48). -/
theorem engine_idle_of_passesEngine {s : State} {r : Request} {region : Option RegionIndex} (h : passesEngine s r region)
    (hneeds : needsNewRecord s r region) : s.engine.state = .idle := by
  unfold passesEngine at h
  split at h
  · assumption
  · exact absurd hneeds h.2
  · exact absurd hneeds h.2
  · exact absurd hneeds h.2

/-- What a dispatch does: the host entry is added, and before it a record is reserved when one is needed; this happens only
with the engine IDLE, room in the journal, an open checkpoint and no protecting record of the epoch (R43, R48, R68). -/
theorem dispatch_cases {s : State} {r : Request} {earlier : List WaitEntry} {id : HostId} {region : Option RegionIndex}
    {journaled : Bool} (h : examine s r earlier = .dispatch id region journaled) (s' : State) :
    dispatch id region journaled r s' = addHost id (plainKind r.kind) .mem r region s' ∨
      ∃ i kind, region = some i ∧ dispatch id region journaled r s' = addHost id kind .pre r region (reserveRecord r i s') ∧
        s.engine.state = .idle ∧ occupancy s.journal < 1024 ∧ 1 ≤ depth s ∧ ¬coveredInEpoch s (requestLine r) := by
  obtain ⟨⟨-, hengine, -, -, hroom⟩, hn⟩ := dispatchedBy_of_examine h
  cases journaled with
  | false => exact .inl rfl
  | true =>
    have hneeds := hn.mp rfl
    obtain ⟨-, ⟨i, rfl, -⟩, hdepth, hcovered⟩ := hneeds
    exact .inr ⟨i, _, rfl, rfl, engine_idle_of_passesEngine hengine (hn.mp rfl), hroom (hn.mp rfl), hdepth, hcovered⟩

/-! ## What an examination can do -/

/-- The subject of an examination is a released wait-list entry that is not answering, or the intake head while that is not
answering (R41). -/
theorem nextSubject_cases {s : State} {subject : Subject} (h : nextSubject s = some subject) :
    stageFree s ∧
      ((∃ k e, subject = .waiting k ∧ s.admission.waitList[k]? = some e ∧ e.answering = none) ∨
        ∃ r rest, subject = .head ∧ s.hport.intake = ⟨r, none⟩ :: rest) := by
  unfold nextSubject at h
  split at h
  · rename_i hfree
    obtain ⟨hp, hq, hst⟩ := hfree
    refine ⟨⟨hp, by simpa [quiescing] using hq, hst⟩, ?_⟩
    split at h
    · rename_i k hk
      obtain ⟨hlt, he, -⟩ := List.findIdx?_eq_some_iff_getElem.mp hk
      obtain rfl := Option.some.inj h
      refine .inl ⟨k, _, rfl, List.getElem?_eq_getElem hlt, ?_⟩
      simp_all
    · split at h
      · rename_i hhead
        obtain rfl := Option.some.inj h
        refine .inr ?_
        unfold headEligible at hhead
        cases hi : s.hport.intake with
        | nil => simp [hi] at hhead
        | cons e rest =>
          obtain ⟨r, answering⟩ := e
          simp only [hi, List.head?_cons, Option.any_some, Bool.and_eq_true, Option.isNone_iff_eq_none] at hhead
          obtain ⟨rfl, -⟩ := hhead
          exact ⟨r, rest, rfl, rfl⟩
      · cases h
  · cases h

/-- Every outcome of an examination: the subject is parked, refused or dispatched, by the verdict on it (R40, R41). -/
theorem examineSubject_cases {s : State} {subject : Subject} (h : nextSubject s = some subject) :
    (∃ k e, s.admission.waitList[k]? = some e ∧ e.answering = none ∧
        ∃ v, v = examine s e.request (s.admission.waitList.take k) ∧
          examineSubject subject s = applyToWaiting k e v (noteFull v s)) ∨
      ∃ r rest, s.hport.intake = ⟨r, none⟩ :: rest ∧
        ∃ v, v = examine s r s.admission.waitList ∧ examineSubject subject s = applyToHead r rest v (noteFull v s) := by
  obtain ⟨-, ⟨k, e, rfl, hk, he⟩ | ⟨r, rest, rfl, hi⟩⟩ := nextSubject_cases h
  · refine .inl ⟨k, e, hk, he, _, rfl, ?_⟩
    simp only [examineSubject, hk]
  · refine .inr ⟨r, rest, hi, _, rfl, ?_⟩
    simp only [examineSubject, hi]

/-- Only a verdict of check 8 sets JFULL. -/
@[simp] theorem noteFull_dispatch (id : HostId) (region : Option RegionIndex) (journaled : Bool) (s : State) :
    noteFull (.dispatch id region journaled) s = s := rfl

end Sys2Proof.Machine
end

section
/-!
PROOFS. What can become of the journal in one event: it is drawn back at the tail, a record is settled, reserved or given up,
the head advances, or the journal is emptied (R68 to R79, R85 to R88). What these keep, every step keeps: the ring's size and
head (R66, R75), and at most one protecting record for a line and an epoch (R73); and without a reservation the journal
only shrinks (R48).
-/

namespace Sys2Proof.Machine

/-! ## The changes of a journal -/

/-- One change of the journal. A record is reserved only where `reserving` holds, with room for it and no protecting record
of its line and epoch (R43, R68). -/
inductive JournalStep (reserving : Prop) : Journal → Journal → Prop
  | drawnBack (j : Journal) (n : Nat) : JournalStep reserving j { j with ring := j.ring.take n }
  | reserved (j : Journal) (x : Record) (h : reserving) (hroom : occupancy j < 1024)
    (hfresh : ∀ y, some y ∈ j.ring → y.line = x.line → y.epoch = x.epoch → y.state = .void) :
    JournalStep reserving j { j with ring := j.ring ++ [some x] }
  | settled (j : Journal) (k : Nat) (a : MemAnswer) (x y : Record) (hk : j.ring[k]? = some (some x))
    (hx : settledRecord a x = some y) : JournalStep reserving j { j with ring := j.ring.set k (some y) }
  | orphanFreed (j : Journal) (k : Nat) : JournalStep reserving j (advanceHead { j with ring := j.ring.set k none })
  | abandoned (j : Journal) (epochs : List Epoch) :
    JournalStep reserving j
      (advanceHead { j with
        ring := j.ring.map fun slot => slot.bind fun r => if r.epoch ∈ epochs then abandonedRecord r else some r })
  | readied (j : Journal) (readiness : Readiness) : JournalStep reserving j { j with readiness := readiness }
  | emptied (j : Journal) (readiness : Readiness) : JournalStep reserving j ⟨readiness, 0, []⟩

/-- Any number of changes of the journal. -/
def JournalPath (reserving : Prop) : Journal → Journal → Prop := Relation.ReflTransGen (JournalStep reserving)

theorem JournalPath.refl {reserving : Prop} {j : Journal} : JournalPath reserving j j := Relation.ReflTransGen.refl

theorem JournalPath.of_eq {reserving : Prop} {j j' : Journal} (h : j' = j) : JournalPath reserving j j' := h ▸ .refl

theorem JournalStep.path {reserving : Prop} {j j' : Journal} (h : JournalStep reserving j j') : JournalPath reserving j j' :=
  Relation.ReflTransGen.single h

theorem JournalPath.trans {reserving : Prop} {j j' j'' : Journal} (h : JournalPath reserving j j')
    (h' : JournalPath reserving j' j'') : JournalPath reserving j j'' :=
  Relation.ReflTransGen.trans h h'

/-- What every change keeps, any number of changes keeps. -/
theorem JournalPath.keeps {reserving : Prop} {P : Journal → Prop} {j j' : Journal} (h : JournalPath reserving j j')
    (hstep : ∀ j j', P j → JournalStep reserving j j' → P j') (hj : P j) : P j' := by
  induction h with
  | refl => exact hj
  | tail _ hs ih => exact hstep _ _ ih hs

/-! ## The shared operations -/

theorem freeAtTail_path (p : Prop) (k : Nat) (s : State) : JournalPath p s.journal (freeAtTail k s).journal := by
  rw [freeAtTail, signalFall_journal]
  exact (JournalStep.drawnBack _ _).path

theorem continueRestore_path (p : Prop) (s : State) : JournalPath p s.journal (continueRestore s).journal := by
  rcases continueRestore_cases s with ⟨he, -⟩ | ⟨target, -, ⟨-, he⟩ | ⟨-, he⟩⟩ <;> rw [he]
  · exact .refl
  · simpa using freeAtTail_path p _ s
  · simpa using freeAtTail_path p _ s

theorem drainTest_path (p : Prop) (s : State) : JournalPath p s.journal (drainTest s).journal := by
  rcases drainTest_cases s with ⟨he, -⟩ | ⟨-, -, -, he⟩ <;> rw [he]
  · exact .refl
  · exact continueRestore_path p { s with engine := { s.engine with state := .restore } }

theorem abandonEpochs_path (p : Prop) (epochs : List Epoch) (s : State) :
    JournalPath p s.journal (abandonEpochs epochs s).journal := by
  rw [abandonEpochs, signalFall_journal]
  exact (JournalStep.abandoned _ _).path

/-- The record at a position stands in the ring at the position's distance from the head (R66). -/
theorem recordAt_eq_some {j : Journal} {position : Nat} {x : Record} :
    recordAt j position = some x ↔ j.ring[ringIndex j position]? = some (some x) := by
  rw [recordAt, Option.join_eq_some_iff]

/-- Only an orphan is freed by the answer to its PRE-READ (R71). -/
theorem settledRecord_eq_none {a : MemAnswer} {x : Record} : settledRecord a x = none ↔ x.state = .reserved true := by
  unfold settledRecord
  split <;> simp [*]

/-- The settling of a record: it is written over at its place, or, being an orphan, freed with head advance (R70, R71, R75). -/
theorem settleRecord_journal (position : Nat) (a : MemAnswer) (s : State) :
    (settleRecord position a s).journal = s.journal ∨
      ∃ k x, s.journal.ring[k]? = some (some x) ∧
        ((∃ y, settledRecord a x = some y ∧
            (settleRecord position a s).journal = { s.journal with ring := s.journal.ring.set k (some y) }) ∨
          x.state = .reserved true ∧
            (settleRecord position a s).journal = advanceHead { s.journal with ring := s.journal.ring.set k none }) := by
  unfold settleRecord
  split
  · exact .inl rfl
  · rename_i x hx
    refine .inr ⟨_, x, recordAt_eq_some.mp hx, ?_⟩
    cases hy : settledRecord a x with
    | some y => exact .inl ⟨y, rfl, rfl⟩
    | none => exact .inr ⟨settledRecord_eq_none.mp hy, signalFall_journal _ _⟩

theorem settleRecord_path (p : Prop) (position : Nat) (a : MemAnswer) (s : State) :
    JournalPath p s.journal (settleRecord position a s).journal := by
  rcases settleRecord_journal position a s with hj | ⟨k, x, hk, ⟨y, hy, hj⟩ | ⟨-, hj⟩⟩ <;> rw [hj]
  · exact .refl
  · exact (JournalStep.settled _ k a x y hk hy).path
  · exact (JournalStep.orphanFreed _ k).path

theorem settleEntryRecord_path (p : Prop) (e : HostEntry) (a : MemAnswer) (s : State) :
    JournalPath p s.journal (settleEntryRecord e a s).journal := by
  unfold settleEntryRecord
  split
  · exact settleRecord_path p _ a s
  · exact .refl
  · exact .refl

theorem hostAnswered_path (p : Prop) (e : HostEntry) (a : MemAnswer) (s : State) :
    JournalPath p s.journal (hostAnswered e a s).journal := by
  rcases hostAnswered_cases e a s with ⟨-, he⟩ | ⟨phase, op, n, ⟨-, he⟩ | ⟨-, he⟩⟩ <;> rw [he]
  · exact .refl
  · exact .refl
  · exact (settleEntryRecord_path p e a (entryMoved e phase op n s)).trans (drainTest_path p _)

theorem restoreAnswered_path (p : Prop) (e : RestoreEntry) (a : MemAnswer) (s : State) :
    JournalPath p s.journal (restoreAnswered e a s).journal := by
  have hfreed := freeAtTail_path p 1 { s with engine := { s.engine with retry := false } }
  rcases restoreAnswered_cases e a s with ⟨-, he⟩ | ⟨-, he⟩ | ⟨-, he⟩ | ⟨-, he⟩ | ⟨-, he⟩ <;> rw [he]
  · exact hfreed
  · exact hfreed.trans (continueRestore_path p _)
  · exact .refl
  · exact .refl
  · exact .refl

theorem acceptRollback_path (p : Prop) (k : Nat) (s : State) : JournalPath p s.journal (acceptRollback k s).journal := by
  unfold acceptRollback
  split
  · exact .refl
  · refine JournalPath.trans (.of_eq ?_) (drainTest_path p _)
    simp

/-- A dispatch reserves a record only with the engine IDLE (R44, R45, R48). -/
theorem dispatch_path {s : State} {r : Request} {earlier : List WaitEntry} {id : HostId} {region : Option RegionIndex}
    {journaled : Bool} (h : examine s r earlier = .dispatch id region journaled) :
    JournalPath (s.engine.state = .idle) s.journal (dispatch id region journaled r s).journal := by
  rcases dispatch_cases h s with he | ⟨i, kind, rfl, he, hidle, hroom, -, hcovered⟩ <;> rw [he]
  · exact .refl
  · rw [addHost_journal, reserveRecord_eq]
    refine (JournalStep.reserved s.journal (newRecord s r i) hidle hroom fun y hy hline hepoch => ?_).path
    by_contra hstate
    exact hcovered ⟨y, hy, hline, hepoch, hstate⟩

theorem examineSubject_path {s : State} {subject : Subject} (h : nextSubject s = some subject) :
    JournalPath (s.engine.state = .idle) s.journal (examineSubject subject s).journal := by
  rcases examineSubject_cases h with ⟨k, e, -, -, v, hv, he⟩ | ⟨r, rest, -, v, hv, he⟩ <;> rw [he]
  · cases v with
    | dispatch id region journaled => simpa [applyToWaiting] using dispatch_path hv.symm
    | park reason region => exact .of_eq (by simp [applyToWaiting])
    | refuse reason region => exact .of_eq (by simp [applyToWaiting])
  · cases v with
    | dispatch id region journaled => simpa [applyToHead] using dispatch_path hv.symm
    | park reason region =>
      refine .of_eq ?_
      simp only [applyToHead]
      split <;> simp
    | refuse reason region => exact .of_eq (by simp [applyToHead])

theorem afterTaking_path (p : Prop) (h : Holder) (r : Request) (a : Ready) (s : State) :
    JournalPath p s.journal (afterTaking h r a s).journal := by
  rw [afterTaking, unstall_journal]
  cases h with
  | taking | intakeHead => exact .of_eq (by simp [giveUp])
  | waiting pair => exact .of_eq (by simp [giveUp])
  | host id =>
    refine JournalPath.trans (.of_eq ?_) (drainTest_path p _)
    simp

theorem settleQuiesce_path (p : Prop) (s : State) : JournalPath p s.journal (settleQuiesce s).journal := by
  rcases settleQuiesce_cases s with he | ⟨toggle, -, -, he⟩ <;> rw [he]
  · exact .refl
  · exact (JournalStep.emptied _ _).path

theorem Execution.path (p : Prop) {c : Instr} {s u : State} (he : Execution c s u) : JournalPath p s.journal u.journal := by
  cases he with
  | release f n =>
    simpa [acceptRelease] using
      abandonEpochs_path p _ { s with stack := { s.stack with checkpoints := s.stack.checkpoints.drop n } }
  | rollback f k => exact acceptRollback_path p k s
  | discard f =>
    simpa [acceptDiscard] using abandonEpochs_path p _ { s with stack := { s.stack with checkpoints := [] } }
  | _ => exact .of_eq (by simp)

/-- What an effect can do to the journal. Records are reserved only with the engine IDLE (R48). -/
theorem Effect.path {c : Instr} {s t : State} (he : Effect c s t) :
    JournalPath (s.engine.state = .idle) s.journal t.journal := by
  cases he with
  | nothing | link | issueGrant | operationAccepted | quietIntervalEnd | firstExpiry => exact .refl
  | executed f status payload _ _ hu => exact hu.path _
  | softReset f _ =>
    refine JournalPath.trans ?_ (settleQuiesce_path _ _)
    rw [offerNext_journal]
    exact (JournalStep.readied s.journal _).path
  | softResetStep4 _ => exact settleQuiesce_path _ s
  | takeRequest r _ => exact .of_eq (by simp)
  | responseTaken holder r a _ _ _ =>
    refine JournalPath.trans ?_ (settleQuiesce_path _ _)
    rw [offerNext_journal]
    exact afterTaking_path _ holder r a s
  | examination subject hn =>
    rw [offerNext_journal]
    exact examineSubject_path hn
  | waitExpiry place _ => exact .of_eq (by simp)
  | hostAnswer identity a id e _ _ =>
    refine JournalPath.trans ?_ (settleQuiesce_path _ _)
    rw [offerNext_journal]
    exact hostAnswered_path _ e a s
  | restoreAnswer identity a e _ _ _ =>
    exact (restoreAnswered_path _ e a { s with tracker := { s.tracker with restore := none } }).trans
      (settleQuiesce_path _ _)
  | pornAssert | pornRelease | journalReady => exact (JournalStep.emptied _ _).path
  | secondExpiry k target _ _ _ => exact acceptRollback_path _ k (setFlag .dlroll s)

/-! ## The size of the ring, and its head -/

/-- The journal is within its ring, and so is its head (R66). -/
def journalBounded (j : Journal) : Prop := occupancy j ≤ 1024 ∧ j.head < 1024

/-- Head advance keeps the head within the ring (R75). -/
theorem journalBounded_advanceHead {j : Journal} (h : occupancy j ≤ 1024) : journalBounded (advanceHead j) :=
  ⟨(List.dropWhile_sublist _).length_le.trans h, Nat.mod_lt _ (by decide)⟩

theorem JournalStep.journalBounded {p : Prop} {j j' : Journal} (h : journalBounded j) (hs : JournalStep p j j') :
    journalBounded j' := by
  obtain ⟨hocc, hhead⟩ := h
  unfold occupancy at hocc
  cases hs with
  | drawnBack n => exact ⟨by simp [occupancy]; omega, hhead⟩
  | reserved x _ hroom _ => exact ⟨by simpa [occupancy] using hroom, hhead⟩
  | settled k a x y _ _ => exact ⟨by simpa [occupancy] using hocc, hhead⟩
  | orphanFreed k => exact journalBounded_advanceHead (by simpa [occupancy] using hocc)
  | abandoned epochs => exact journalBounded_advanceHead (by simpa [occupancy] using hocc)
  | readied readiness => exact ⟨hocc, hhead⟩
  | emptied readiness => exact ⟨Nat.zero_le _, Nat.zero_lt_succ _⟩

/-- The record at the head is live unless the journal is empty (R75). -/
def headLive (j : Journal) : Prop := j.ring.head? ≠ some none

theorem JournalStep.headLive {p : Prop} {j j' : Journal} (h : headLive j) (hs : JournalStep p j j') : headLive j' := by
  unfold Machine.headLive at h ⊢
  cases hs with
  | drawnBack n =>
    cases n with
    | zero => simp
    | succ n => simpa [List.head?_take] using h
  | reserved x _ _ _ => cases hr : j.ring <;> simp_all
  | settled k a x y _ _ => cases hr : j.ring <;> cases k <;> simp_all
  | orphanFreed k => exact advanceHead_live _
  | abandoned epochs => exact advanceHead_live _
  | readied readiness => exact h
  | emptied readiness => simp

/-! ## One protecting record for a line and an epoch -/

/-- The key of a record that is RESERVED or VALID (R73). -/
def protectedKey (slot : Option Record) : Option (LineAddr × Epoch) :=
  slot.bind fun r => if protects r then some (r.line, r.epoch) else none

theorem protectedKey_eq_some {x : Record} {key : LineAddr × Epoch} :
    protectedKey (some x) = some key ↔ protects x = true ∧ key = (x.line, x.epoch) := by
  simp only [protectedKey, Option.bind_some, Option.ite_none_right_eq_some, Option.some.injEq, eq_comm (b := key)]

theorem protectedKeys_eq (j : Journal) : protectedKeys j = j.ring.filterMap protectedKey := rfl

/-- A reading of the ring's positions that finds nothing at a freed one, and that settling a record (R70, R71) or giving it up
(R79) leaves as it was or takes away. -/
structure KeptKey {β : Type} (f : Option Record → Option β) : Prop where
  freed : f none = none
  settled : ∀ {a x y}, settledRecord a x = some y → f (some y) = f (some x) ∨ f (some y) = none
  abandoned : ∀ {x y}, abandonedRecord x = some y → f (some y) = f (some x) ∨ f (some y) = none

theorem keptKey_protectedKey : KeptKey protectedKey where
  freed := rfl
  settled {a x y} h := by
    unfold settledRecord at h
    split at h <;> cases h <;> simp [protectedKey, protects, *]
  abandoned {x y} h := by
    unfold abandonedRecord at h
    split at h <;> cases h
    simp [protectedKey, protects, *]

/-- Giving up the records of some epochs leaves each position's key or takes it away. -/
theorem KeptKey.abandonedSlot {β : Type} {f : Option Record → Option β} (hf : KeptKey f) (epochs : List Epoch)
    (slot : Option Record) :
    f (slot.bind fun r => if r.epoch ∈ epochs then abandonedRecord r else some r) = f slot ∨
      f (slot.bind fun r => if r.epoch ∈ epochs then abandonedRecord r else some r) = none := by
  cases slot with
  | none => exact .inl rfl
  | some x =>
    simp only [Option.bind_some]
    split
    · cases hx : abandonedRecord x with
      | none => exact .inr hf.freed
      | some y => exact hf.abandoned hx
    · exact .inl rfl

/-- Where each position keeps its key or loses it, the keys are a sublist of the old ones. -/
theorem filterMap_sublist_of_forall₂ {α β : Type} {f : α → Option β} {l l' : List α}
    (h : List.Forall₂ (fun x y => f y = f x ∨ f y = none) l l') : (l'.filterMap f).Sublist (l.filterMap f) := by
  induction h with
  | nil => exact .slnil
  | @cons x y l l' hxy _ ih =>
    rcases hxy with hxy | hxy
    · cases hx : f x with
      | none => simpa [List.filterMap_cons, hxy, hx] using ih
      | some b => simpa [List.filterMap_cons, hxy, hx] using ih
    · rw [List.filterMap_cons_none hxy]
      exact ih.trans ((List.sublist_cons_self x l).filterMap f)

theorem forall₂_set {α : Type} {R : α → α → Prop} (hrefl : ∀ x, R x x) {l : List α} {k : Nat} {x : α}
    (h : ∀ y, l[k]? = some y → R y x) : List.Forall₂ R l (l.set k x) := by
  induction l generalizing k with
  | nil => exact .nil
  | cons a l ih =>
    cases k with
    | zero => exact .cons (h a rfl) (List.forall₂_same.mpr fun x _ => hrefl x)
    | succ k => exact .cons (hrefl a) (ih fun y hy => h y (by simpa using hy))

/-- Head advance passes positions that hold no record. -/
theorem filterMap_advanceHead {β : Type} {f : Option Record → Option β} (j : Journal) :
    ((advanceHead j).ring.filterMap f).Sublist (j.ring.filterMap f) :=
  (List.dropWhile_sublist _).filterMap f

/-- A change of the journal is a reservation or reserves nothing. -/
theorem JournalStep.reserved_or_not {p : Prop} {j j' : Journal} (hs : JournalStep p j j') :
    JournalStep False j j' ∨ ∃ x, (∀ y, some y ∈ j.ring → y.line = x.line → y.epoch = x.epoch → y.state = .void) ∧
      j' = { j with ring := j.ring ++ [some x] } := by
  cases hs with
  | drawnBack n => exact .inl (.drawnBack _ _)
  | reserved x _ _ hfresh => exact .inr ⟨x, hfresh, rfl⟩
  | settled k a x y hk hx => exact .inl (.settled _ _ a x y hk hx)
  | orphanFreed k => exact .inl (.orphanFreed _ _)
  | abandoned epochs => exact .inl (.abandoned _ _)
  | readied readiness => exact .inl (.readied _ _)
  | emptied readiness => exact .inl (.emptied _ _)

/-- Without a reservation the keys of the records left are a sublist of those before. -/
theorem JournalStep.keys_sublist {β : Type} {f : Option Record → Option β} (hf : KeptKey f) {j j' : Journal}
    (hs : JournalStep False j j') : (j'.ring.filterMap f).Sublist (j.ring.filterMap f) := by
  cases hs with
  | drawnBack n => exact (List.take_sublist n _).filterMap _
  | reserved x h _ _ => exact h.elim
  | settled k a x y hk hx =>
    refine filterMap_sublist_of_forall₂ (forall₂_set (fun _ => .inl rfl) fun z hz => ?_)
    rw [hk] at hz
    obtain rfl := Option.some.inj hz
    exact hf.settled hx
  | orphanFreed k =>
    exact (filterMap_advanceHead _).trans
      (filterMap_sublist_of_forall₂ (forall₂_set (fun _ => .inl rfl) fun _ _ => .inr hf.freed))
  | abandoned epochs =>
    refine (filterMap_advanceHead _).trans (filterMap_sublist_of_forall₂ ?_)
    rw [List.forall₂_map_right_iff]
    exact List.forall₂_same.mpr fun slot _ => hf.abandonedSlot epochs slot
  | readied readiness => exact .refl _
  | emptied readiness => exact List.nil_sublist _

theorem JournalStep.protectedKeys_nodup {p : Prop} {j j' : Journal} (h : (protectedKeys j).Nodup) (hs : JournalStep p j j') :
    (protectedKeys j').Nodup := by
  rw [protectedKeys_eq] at h ⊢
  rcases hs.reserved_or_not with hs | ⟨x, hfresh, rfl⟩
  · exact h.sublist (hs.keys_sublist keptKey_protectedKey)
  · rw [List.filterMap_append]
    cases hkey : protectedKey (some x) with
    | none => simpa [List.filterMap_cons_none hkey] using h
    | some key =>
      have hnew : key ∉ j.ring.filterMap protectedKey := fun hmem => by
        obtain ⟨slot, hslot, hkey'⟩ := List.mem_filterMap.mp hmem
        obtain ⟨-, rfl⟩ := protectedKey_eq_some.mp hkey
        obtain ⟨y, rfl, hy⟩ : ∃ y, slot = some y ∧ protectedKey (some y) = some (x.line, x.epoch) := by
          cases slot with
          | none => cases hkey'
          | some y => exact ⟨y, rfl, hkey'⟩
        obtain ⟨hprotects, hxy⟩ := protectedKey_eq_some.mp hy
        exact (protects_iff y).mp hprotects (hfresh y hslot (congrArg Prod.fst hxy).symm (congrArg Prod.snd hxy).symm)
      simpa [List.filterMap_cons_some hkey] using h.concat hnew

/-! ## Without a reservation -/

/-- The epochs of the live records. -/
theorem keptKey_epoch : KeptKey fun slot => slot.map Record.epoch where
  freed := rfl
  settled {a x y} h := by
    unfold settledRecord at h
    split at h <;> cases h <;> simp
  abandoned {x y} h := by
    unfold abandonedRecord at h
    split at h <;> cases h
    simp

/-- Without a reservation the journal grows no longer. -/
theorem JournalStep.occupancy_le {j j' : Journal} (hs : JournalStep False j j') : occupancy j' ≤ occupancy j := by
  cases hs with
  | drawnBack n => exact (List.take_sublist _ _).length_le
  | reserved x h _ _ => exact h.elim
  | settled | readied => simp [occupancy]
  | orphanFreed k => exact (List.dropWhile_sublist _).length_le.trans (by simp [occupancy])
  | abandoned epochs => exact (List.dropWhile_sublist _).length_le.trans (by simp [occupancy])
  | emptied => exact Nat.zero_le _

/-- Settles O17: outside IDLE no change of the journal is a reservation, and the others only take records away. -/
theorem noReservationUnlessEngineIdle : Obligations.NoReservationUnlessEngineIdle := by
  intro c s t hbusy h
  have hpath : JournalPath False s.journal t.journal := by
    simpa only [eq_false hbusy] using (effect_of_exec h).path
  refine hpath.keeps (P := fun j => occupancy j ≤ occupancy s.journal ∧
    (liveEpochs j).length ≤ (liveEpochs s.journal).length) (fun j j' hj hs => ?_) ⟨le_rfl, le_rfl⟩
  exact ⟨hs.occupancy_le.trans hj.1, (hs.keys_sublist keptKey_epoch).length_le.trans hj.2⟩

end Sys2Proof.Machine
end

section
/-!
PROOFS. The capacities: every effect keeps the queues, the journal, the stack and the further count within their sizes and a
live record at the head (R5, R52, R66, R75, R90, R153).
-/

namespace Sys2Proof.Machine

/-! ## The whole part -/

/-- The invariant of this section, block by block. -/
structure Bounded (s : State) : Prop where
  intake : s.hport.intake.length ≤ 8
  waiting : (waitRequests s).length ≤ 16
  checkpoints : depth s ≤ 4
  further : ∀ c, s.events.capture = some c → c.further ≤ 255

/-- A part in which no queue has grown, with a sound journal and the same capture record. -/
theorem Bounded.mono {s t : State} (h : Bounded s) (hintake : t.hport.intake.length ≤ s.hport.intake.length)
    (hwaiting : (waitRequests t).length ≤ (waitRequests s).length) (hdepth : depth t ≤ depth s)
    (hcapture : t.events.capture = s.events.capture) : Bounded t where
  intake := hintake.trans h.intake
  waiting := hwaiting.trans h.waiting
  checkpoints := hdepth.trans h.checkpoints
  further := hcapture ▸ h.further

theorem bounded_softResetValues (toggle : Bool) (s : State) : Bounded (softResetValues toggle s) where
  intake := by simp [softResetValues, State.reset]
  waiting := by simp [waitRequests, softResetValues, State.reset]
  checkpoints := by simp [depth, softResetValues, State.reset]
  further := by simp [softResetValues, State.reset]

theorem bounded_settleQuiesce {s : State} (h : Bounded s) : Bounded (settleQuiesce s) :=
  settleQuiesce_keeps h fun toggle => bounded_softResetValues toggle s

theorem bounded_offerNext {s : State} (h : Bounded s) : Bounded (offerNext s) :=
  h.mono (by simp) (by simp) (by simp) (by simp)

theorem acceptRollback_depth {k : Nat} {s : State} {target : Checkpoint} (hk : s.stack.checkpoints[k]? = some target) :
    depth (acceptRollback k s) = k + 1 := by
  obtain ⟨hlt, -⟩ := List.getElem?_eq_some_iff.mp hk
  rw [acceptRollback_eq hk, drainTest_depth]
  simp [depth, rollbackEntered]
  omega

theorem bounded_acceptRollback {k : Nat} {s : State} {target : Checkpoint} (h : Bounded s)
    (hk : s.stack.checkpoints[k]? = some target) : Bounded (acceptRollback k s) := by
  refine h.mono (by simp) (by simp) ?_ ?_
  · obtain ⟨hlt, -⟩ := List.getElem?_eq_some_iff.mp hk
    rw [acceptRollback_depth hk]
    exact hlt
  · rw [acceptRollback_eq hk, drainTest_capture]
    rfl

/-- A command of the link frees records and closes checkpoints; only MARK opens one, at a depth below 4 (R95). -/
theorem Execution.bounded {c : Instr} {s u : State} (he : Execution c s u) (h : Bounded s) : Bounded u := by
  have hintake : u.hport.intake.length ≤ s.hport.intake.length := by rw [he.hport_eq]
  have hwaiting : (waitRequests u).length ≤ (waitRequests s).length := by rw [he.waitRequests_eq]
  cases he with
  | ackCapture f => exact ⟨hintake.trans h.intake, hwaiting.trans h.waiting, h.checkpoints, by simp⟩
  | mark f _ _ hroom =>
    refine ⟨hintake.trans h.intake, hwaiting.trans h.waiting, ?_, by simpa using h.further⟩
    simpa [depth, acceptMark, pushCheckpoint] using hroom
  | release f n _ _ hn =>
    exact h.mono hintake hwaiting (by simp [depth, acceptRelease]) (by simp)
  | rollback f k target _ _ hk => exact bounded_acceptRollback h hk
  | discard f _ _ =>
    exact h.mono hintake hwaiting (by simp [depth, acceptDiscard]) (by simp)
  | _ => exact h.mono hintake hwaiting (by simp [depth]) (by simp [clearFlags])

theorem bounded_dispatch {s : State} {r : Request} {earlier : List WaitEntry} {id : HostId} {region : Option RegionIndex}
    {journaled : Bool} (h : Bounded s) (hv : examine s r earlier = .dispatch id region journaled) :
    Bounded (dispatch id region journaled r s) := by
  rcases dispatch_cases hv s with he | ⟨i, kind, rfl, he, -, -, -, -⟩ <;> rw [he]
  · exact h.mono (by simp) (by simp) (by simp) (by simp)
  · exact h.mono (by simp) (by simp [waitRequests]) (by simp) (by simp)

theorem bounded_noteFull {s : State} (h : Bounded s) (v : Verdict) : Bounded (noteFull v s) :=
  h.mono (by simp) (by simp) (by simp) (by simp)

/-- An examined wait-list entry keeps its place or leaves (R48 to R50). -/
theorem bounded_applyToWaiting {s : State} {k : Nat} {e : WaitEntry} {v : Verdict} (h : Bounded s)
    (hk : s.admission.waitList[k]? = some e) (hv : v = examine s e.request (s.admission.waitList.take k)) :
    Bounded (applyToWaiting k e v (noteFull v s)) := by
  cases v with
  | dispatch id region journaled =>
    have hd := bounded_dispatch h hv.symm
    refine hd.mono (by simp [applyToWaiting]) ?_ (by simp [applyToWaiting]) (by simp [applyToWaiting])
    have hk' : (dispatch id region journaled e.request s).admission.waitList[k]? = some e := by simpa using hk
    simp only [applyToWaiting, noteFull_dispatch, leaveWaitList_waitRequests hk']
    exact (List.eraseIdx_sublist _ _).length_le
  | park reason region =>
    exact (bounded_noteFull h (.park reason region)).mono le_rfl (by simp [applyToWaiting, waitRequests])
      le_rfl rfl
  | refuse reason region =>
    exact (bounded_noteFull h (.refuse reason region)).mono le_rfl (by simp [applyToWaiting, waitRequests])
      le_rfl rfl

/-- An examined intake head leaves the queue for the tracker or for a wait list with room, or stays (R48 to R50, R58). -/
theorem bounded_applyToHead {s : State} {r : Request} {rest : List IntakeEntry} {v : Verdict} (h : Bounded s)
    (hi : s.hport.intake = ⟨r, none⟩ :: rest) (hv : v = examine s r s.admission.waitList) :
    Bounded (applyToHead r rest v (noteFull v s)) := by
  cases v with
  | dispatch id region journaled =>
    have hd := bounded_dispatch h hv.symm
    exact hd.mono (by simp [applyToHead, hi]) le_rfl le_rfl rfl
  | park reason region =>
    have hn := bounded_noteFull h (.park reason region)
    simp only [applyToHead]
    split
    · rename_i hroom
      refine ⟨?_, ?_, hn.checkpoints, hn.further⟩
      · have := h.intake
        simp only [hi, List.length_cons] at this
        simpa using by omega
      · simpa [waitRequests, Config.waitCapacity, Nat.succ_le_iff] using hroom
    · exact hn.mono le_rfl le_rfl le_rfl rfl
  | refuse reason region =>
    have hn := bounded_noteFull h (.refuse reason region)
    exact hn.mono (by simp [applyToHead, hi]) le_rfl le_rfl rfl

theorem bounded_examineSubject {s : State} {subject : Subject} (h : Bounded s) (hn : nextSubject s = some subject) :
    Bounded (examineSubject subject s) := by
  rcases examineSubject_cases hn with ⟨k, e, hk, -, v, hv, he⟩ | ⟨r, rest, hi, v, hv, he⟩ <;> rw [he]
  · exact bounded_applyToWaiting h hk hv
  · exact bounded_applyToHead h hi hv

/-- The further count stops at 255 (R153). -/
theorem bounded_captureResponse {s : State} (h : Bounded s) (epoch : Epoch) (r : Request) (a : Ready) :
    Bounded (captureResponse epoch r a s) := by
  refine ⟨by simpa using h.intake, by simpa [waitRequests] using h.waiting,
    by simpa [depth] using h.checkpoints, ?_⟩
  unfold captureResponse
  split
  · exact h.further
  · split
    · rintro c ⟨⟩
      simp
    · rintro c ⟨⟩
      simp [Config.furtherLimit]

theorem bounded_retireHost {s : State} (h : Bounded s) (id : HostId) (r : Request) : Bounded (retireHost id r s) :=
  h.mono (by simp) (by simp) (by simp) (by simp)

/-- Every holder gives up its request and takes none (R8). -/
theorem bounded_giveUp {s : State} (h : Bounded s) (holder : Holder) (r : Request) : Bounded (giveUp holder r s) := by
  cases holder with
  | taking => exact h.mono le_rfl le_rfl le_rfl rfl
  | intakeHead => exact h.mono (by simp [giveUp]) le_rfl le_rfl rfl
  | waiting p =>
    refine h.mono (by simp [giveUp]) ?_ (by simp [giveUp, depth]) (by simp [giveUp])
    simp only [giveUp, dropPair_waitRequests]
    cases hk : s.admission.waitList[s.admission.waitList.findIdx fun e => requestPair e.request = p]? with
    | none => simp [leaveWaitList, hk]
    | some e =>
      rw [leaveWaitList_waitRequests hk]
      exact (List.eraseIdx_sublist _ _).length_le
  | host id => exact (bounded_retireHost h id r).mono le_rfl le_rfl le_rfl rfl

theorem bounded_afterTaking {s : State} (hs : Bounded s) (h : Holder) (r : Request) (a : Ready) :
    Bounded (afterTaking h r a s) := by
  have hoffered : Bounded { s with hport := { s.hport with offered := none } } := hs.mono le_rfl le_rfl le_rfl rfl
  have hgone := bounded_giveUp (bounded_captureResponse hoffered (currentEpoch s) r a) h r
  exact hgone.mono (by simp [afterTaking]) (by simp [afterTaking])
    (by simp [afterTaking, depth]) (by simp [afterTaking])

theorem bounded_hostAnswered {s : State} (h : Bounded s) (e : HostEntry) (a : MemAnswer) : Bounded (hostAnswered e a s) := by
  rcases hostAnswered_cases e a s with ⟨-, he⟩ | ⟨phase, op, n, ⟨-, he⟩ | ⟨-, he⟩⟩ <;> rw [he]
  · exact h
  · exact h.mono le_rfl le_rfl le_rfl rfl
  · exact h.mono (by simp) (by simp) (by simp) (by simp)

theorem bounded_freeAtTail {s : State} (h : Bounded s) (k : Nat) : Bounded (freeAtTail k s) :=
  h.mono (by simp) (by simp) (by simp) (by simp)

theorem bounded_continueRestore {s : State} (h : Bounded s) : Bounded (continueRestore s) :=
  h.mono (by simp) (by simp) (by simp) (by simp)

theorem bounded_restoreAnswered {s : State} (h : Bounded s) (e : RestoreEntry) (a : MemAnswer) :
    Bounded (restoreAnswered e a s) := by
  have hretry : Bounded { s with engine := { s.engine with retry := false } } := h.mono le_rfl le_rfl le_rfl rfl
  rcases restoreAnswered_cases e a s with ⟨-, he⟩ | ⟨-, he⟩ | ⟨-, he⟩ | ⟨-, he⟩ | ⟨-, he⟩ <;> rw [he]
  · exact bounded_freeAtTail hretry 1
  · exact bounded_continueRestore (bounded_freeAtTail hretry 1)
  · exact hretry
  · exact h.mono (by simp) (by simp) (by simp) (by simp)
  · exact h.mono le_rfl le_rfl le_rfl rfl

theorem bounded_takeRequest {s : State} (h : Bounded s) (r : Request) (hc : canTake s = true) : Bounded (takeRequest r s) := by
  obtain ⟨-, -, -, hroom⟩ := (canTake_iff s).mp hc
  cases hcheck : takingCheck r s with
  | some reason =>
    rw [takeRequest_of_refused hcheck]
    exact bounded_offerNext (h.mono le_rfl le_rfl le_rfl rfl)
  | none =>
    rw [takeRequest_of_accepted hcheck]
    exact ⟨by simpa using by omega, h.waiting, h.checkpoints, h.further⟩

theorem resetIntake_length (seq : Nat) (held : Option HeldHead) (intake : List IntakeEntry) :
    (resetIntake seq held intake).length = intake.length := by
  cases intake <;> simp [resetIntake]

theorem bounded_beginSoftReset {s : State} (h : Bounded s) (toggle : Bool) : Bounded (beginSoftReset toggle s) :=
  bounded_settleQuiesce
    (bounded_offerNext (h.mono (by simp [resetIntake_length]) (by simp [waitRequests]) le_rfl rfl))

/-- Every effect keeps the capacities. -/
theorem Effect.bounded {c : Instr} {s t : State} (he : Effect c s t) (h : Bounded s) : Bounded t := by
  cases he with
  | nothing => exact h
  | link | issueGrant | operationAccepted | quietIntervalEnd | firstExpiry => exact h.mono le_rfl le_rfl le_rfl rfl
  | executed f status payload _ _ hu =>
    have := hu.bounded h
    exact this.mono le_rfl le_rfl le_rfl rfl
  | softReset f _ => exact bounded_beginSoftReset h f.toggle
  | softResetStep4 _ => exact bounded_settleQuiesce h
  | takeRequest r hc => exact bounded_takeRequest h r hc
  | responseTaken holder r a _ _ _ => exact bounded_settleQuiesce (bounded_offerNext (bounded_afterTaking h holder r a))
  | examination subject hn => exact bounded_offerNext (bounded_examineSubject h hn)
  | waitExpiry place _ => exact bounded_offerNext (h.mono (by simp) (by simp [expire, waitRequests]) (by simp [depth])
      (by simp [expire]))
  | hostAnswer identity a id e _ _ => exact bounded_settleQuiesce (bounded_offerNext (bounded_hostAnswered h e a))
  | restoreAnswer identity a e _ _ _ =>
    exact bounded_settleQuiesce (bounded_restoreAnswered (s := { s with tracker := { s.tracker with restore := none } })
      (h.mono le_rfl le_rfl le_rfl rfl) e a)
  | pornAssert | pornRelease =>
    exact ⟨Nat.zero_le _, Nat.zero_le _, Nat.zero_le _, by rintro c ⟨⟩⟩
  | journalReady => exact h.mono le_rfl le_rfl le_rfl rfl
  | secondExpiry k target _ _ hk =>
    exact (bounded_acceptRollback (s := setFlag .dlroll s) (h.mono le_rfl le_rfl le_rfl rfl) hk)

/-! ## The journal -/

/-- Every step keeps what every change of the journal keeps. -/
theorem step_keeps_journal {P : Journal → Prop} (hP : ∀ p j j', P j → JournalStep p j j' → P j') {s t : State}
    (hs : P s.journal) (hstep : step s = .next t) : P t.journal :=
  step_keeps (P := fun s => P s.journal) (fun _ _ h => h) (fun _ _ _ h he => he.path.keeps (hP _) h)
    (fun _ h _ => h) hs hstep

theorem withinCapacity_iff (s : State) : withinCapacity s ↔ Bounded s ∧ journalBounded s.journal := by
  unfold withinCapacity journalBounded
  rw [← waitRequests_length]
  constructor
  · rintro ⟨hintake, hwaiting, hocc, hhead, hdepth, hfurther⟩
    exact ⟨⟨hintake, hwaiting, hdepth, hfurther⟩, hocc, hhead⟩
  · rintro ⟨⟨hintake, hwaiting, hdepth, hfurther⟩, hocc, hhead⟩
    exact ⟨hintake, hwaiting, hocc, hhead, hdepth, hfurther⟩

theorem step_keeps_withinCapacity {s t : State} (h : withinCapacity s) (hstep : step s = .next t) : withinCapacity t := by
  obtain ⟨hbounded, hjournal⟩ := (withinCapacity_iff s).mp h
  refine (withinCapacity_iff t).mpr ⟨step_keeps (P := Bounded) ?_ ?_ ?_ hbounded hstep,
    step_keeps_journal (fun _ _ _ => JournalStep.journalBounded) hjournal hstep⟩
  · exact fun s p h => h.mono le_rfl le_rfl le_rfl rfl
  · exact fun c s t h he => he.bounded h
  · exact fun s h _ => h.mono le_rfl le_rfl le_rfl rfl

/-- Settles O9: every effect keeps `Bounded`, every change of the journal its size and a live head. -/
theorem stepKeepsCapacity : Obligations.StepKeepsCapacity := fun _ _ hcapacity hlive hstep =>
  ⟨step_keeps_withinCapacity hcapacity hstep, step_keeps_journal (fun _ _ _ => JournalStep.headLive) hlive hstep⟩

/-- Settles O11: no change of the journal adds a second protecting record for a line and an epoch. -/
theorem stepKeepsRecordsUnique : Obligations.StepKeepsRecordsUnique := fun _ _ hunique hstep =>
  step_keeps_journal (fun _ _ _ => JournalStep.protectedKeys_nodup) hunique hstep

end Sys2Proof.Machine
end

section
/-!
PROOFS. The deadline timer: every effect keeps it as R133 describes it, and the setting that the description leans on (R86,
R105, R129, R133, R137, R142, R144, R187).
-/

namespace Sys2Proof.Machine

/-! ## What the invariant looks at -/

/-- All that `timerSound` looks at. -/
def timerView (s : State) : Params × Timer × Nat × (EngineState × Bool) × Bool × Bool × Option Bool × Readiness :=
  (s.params, s.timer, depth s, (s.engine.state, s.engine.stopping), s.tracker.restore.isSome, s.porn, s.link.quiesce,
    s.journal.readiness)

theorem timerSound_of_view {s t : State} (h : timerSound s) (hview : timerView t = timerView s) : timerSound t := by
  simp only [timerView, Prod.mk.injEq] at hview
  obtain ⟨hparams, htimer, hdepth, ⟨hstate, hstopping⟩, hrestore, hporn, hquiesce, hready⟩ := hview
  simpa only [timerSound, paramsInRange, timerAsDescribed, timerInRange, timerSetting, hparams, htimer, hdepth, hstate,
    hstopping, ← Option.isSome_iff_ne_none, hrestore, hporn, hquiesce, hready] using h

@[simp] theorem freeAtTail_readiness (k : Nat) (s : State) :
    (freeAtTail k s).journal.readiness = s.journal.readiness := by
  simp [freeAtTail]

theorem freeAtTail_timerView (k : Nat) (s : State) : timerView (freeAtTail k s) = timerView s := by
  simp [timerView]

@[simp] theorem abandonEpochs_readiness (epochs : List Epoch) (s : State) :
    (abandonEpochs epochs s).journal.readiness = s.journal.readiness := by
  simp [abandonEpochs, advanceHead]

@[simp] theorem settleRecord_readiness (position : Nat) (a : MemAnswer) (s : State) :
    (settleRecord position a s).journal.readiness = s.journal.readiness := by
  unfold settleRecord
  split
  · rfl
  · dsimp only
    split <;> simp [advanceHead]

@[simp] theorem settleEntryRecord_readiness (e : HostEntry) (a : MemAnswer) (s : State) :
    (settleEntryRecord e a s).journal.readiness = s.journal.readiness := by
  unfold settleEntryRecord
  split <;> simp

theorem settleEntryRecord_timerView (e : HostEntry) (a : MemAnswer) (s : State) :
    timerView (settleEntryRecord e a s) = timerView s := by
  simp [timerView]

theorem entryMoved_timerView (e : HostEntry) (phase : Phase) (op : OpState) (n : Nat) (s : State) :
    timerView (entryMoved e phase op n s) = timerView s := rfl

theorem offerNext_timerView (s : State) : timerView (offerNext s) = timerView s := by
  simp [timerView]

theorem unstall_timerView (h : Holder) (s : State) : timerView (unstall h s) = timerView s := by
  simp [timerView, depth]

theorem captureResponse_timerView (epoch : Epoch) (r : Request) (a : Ready) (s : State) :
    timerView (captureResponse epoch r a s) = timerView s := by
  simp [timerView, depth]

theorem leaveWaitList_timerView (k : Nat) (s : State) : timerView (leaveWaitList k s) = timerView s := by
  simp [timerView]

theorem takeRequest_timerView (r : Request) (s : State) : timerView (takeRequest r s) = timerView s := by
  simp [timerView, depth]

@[simp] theorem reserveRecord_readiness (r : Request) (i : RegionIndex) (s : State) :
    (reserveRecord r i s).journal.readiness = s.journal.readiness := by
  rw [reserveRecord_eq]
  rfl

theorem dispatch_timerView (id : HostId) (region : Option RegionIndex) (journaled : Bool) (r : Request) (s : State) :
    timerView (dispatch id region journaled r s) = timerView s := by
  unfold dispatch
  split
  · simp [timerView]
  · rfl
  · rfl

theorem noteFull_timerView (v : Verdict) (s : State) : timerView (noteFull v s) = timerView s := by
  simp [timerView]

theorem applyToWaiting_timerView (k : Nat) (e : WaitEntry) (v : Verdict) (s : State) :
    timerView (applyToWaiting k e v s) = timerView s := by
  cases v with
  | dispatch id region journaled =>
    exact (leaveWaitList_timerView k _).trans (dispatch_timerView id region journaled e.request s)
  | park reason region => rfl
  | refuse reason region => rfl

theorem applyToHead_timerView (r : Request) (rest : List IntakeEntry) (v : Verdict) (s : State) :
    timerView (applyToHead r rest v s) = timerView s := by
  cases v with
  | dispatch id region journaled => exact dispatch_timerView id region journaled r s
  | park reason region =>
    simp only [applyToHead]
    split <;> rfl
  | refuse reason region => rfl

theorem examineSubject_timerView {subject : Subject} {s : State} (h : nextSubject s = some subject) :
    timerView (examineSubject subject s) = timerView s := by
  rcases examineSubject_cases h with ⟨k, e, -, -, v, -, he⟩ | ⟨r, rest, -, v, -, he⟩ <;> rw [he]
  · exact (applyToWaiting_timerView k e v _).trans (noteFull_timerView v s)
  · exact (applyToHead_timerView r rest v _).trans (noteFull_timerView v s)

/-! ## The timer's own operations -/

/-- With DL_ENABLE off the timer is OFF (R133). -/
theorem timer_off_of_disabled {s : State} (h : timerSound s) (hd : s.params.dlEnable = false) :
    s.timer.state = .off ∧ s.timer.elapsed = 0 ∧ s.timer.divider = 0 := by
  obtain ⟨-, ⟨hstill, hrunning, hsuspended⟩, -⟩ := h
  have hoff : s.timer.state = .off := by
    cases hstate : s.timer.state <;> simp_all
  exact ⟨hoff, hstill (.inl hoff)⟩

theorem paramsInRange_period {s : State} (h : paramsInRange s) :
    1 ≤ periodOf s.params.dlPeriod ∧ periodOf s.params.dlPeriod ≤ 1024 := by
  obtain ⟨-, -, hperiod⟩ := h
  exact ⟨Nat.one_le_two_pow, (Nat.pow_le_pow_right (by omega) hperiod).trans_eq rfl⟩

/-- Under power, outside a quiesce, with a checkpoint open and the engine IDLE, a sound timer may be restarted (R136). -/
theorem timerSound_restartTimer {s : State} (h : timerSound s) (hporn : s.porn = true) (hquiesce : s.link.quiesce = none)
    (hdepth : 1 ≤ depth s) (hidle : s.engine.state = .idle) : timerSound (restartTimer s) := by
  by_cases hd : s.params.dlEnable = true
  · obtain ⟨hparams, -, -, hset⟩ := h
    obtain ⟨hlow, hhigh⟩ := paramsInRange_period hparams
    obtain ⟨hengine, hrestore, -, -, hready⟩ := hset
    rw [restartTimer, if_pos hd]
    refine ⟨hparams, ⟨by simp, fun _ => ⟨hdepth, hidle, hd⟩, by simp⟩, ⟨Nat.zero_le _, by simp, hlow, hhigh⟩, hengine,
      hrestore, by simp [hporn], by simp [hquiesce], hready⟩
  · rwa [restartTimer, if_neg hd]

/-- The timer may be turned OFF at any time, whatever becomes of the stack, the engine and the journal with it, as long as
these agree (R137). -/
theorem timerSound_of_off {s t : State} (h : timerSound s) (hparams : paramsInRange t)
    (hperiod : t.timer.period = s.timer.period)
    (hoff : t.timer.state = .off ∧ t.timer.elapsed = 0 ∧ t.timer.divider = 0) (hengine : t.engine.state ≠ .idle → 1 ≤ depth t)
    (hrestore : t.tracker.restore ≠ none → t.engine.state = .restore)
    (hstopping : t.link.quiesce ≠ none → t.engine.state = .drain ∨ t.engine.state = .restore → t.engine.stopping = true)
    (hready : t.journal.readiness ≠ .ready → depth t = 0) : timerSound t := by
  obtain ⟨-, -, ⟨-, -, hlow, hhigh⟩, -⟩ := h
  obtain ⟨hstate, helapsed, hdivider⟩ := hoff
  refine ⟨hparams, ⟨fun _ => ⟨helapsed, hdivider⟩, by simp [hstate], by simp [hstate]⟩,
    ⟨by omega, by omega, by omega, by omega⟩, hengine, hrestore, fun _ => hstate, fun hq => ⟨hstate, hstopping hq⟩, hready⟩

/-! ## The restore engine -/

/-- A completed restore leaves the engine IDLE and the timer RUNNING, or OFF (R123, R142). -/
theorem timerSound_completeRestore {s : State} (h : timerSound s) (hporn : s.porn = true) (hquiesce : s.link.quiesce = none)
    (hdepth : 1 ≤ depth s) (hrestore : s.tracker.restore = none) : timerSound (completeRestore s) := by
  by_cases hd : s.params.dlEnable = true
  · obtain ⟨hparams, -, -, -, -, -, -, hready⟩ := h
    obtain ⟨hlow, hhigh⟩ := paramsInRange_period hparams
    have hidle : (completeRestore s).engine.state = .idle := by simp [completeRestore]
    have htimer : (completeRestore s).timer = ⟨.running, 0, 0, periodOf s.params.dlPeriod⟩ := by
      simp [completeRestore, restartTimer, hd]
    refine ⟨by simpa [paramsInRange] using hparams, ?_, ?_, ?_⟩
    · simp [timerAsDescribed, htimer, hidle, hd, hdepth]
    · simp [timerInRange, htimer, hlow, hhigh]
    · simpa [timerSetting, htimer, hidle, hporn, hquiesce, hrestore] using hready
  · have hoff := timer_off_of_disabled h (by simpa using hd)
    have htimer : (completeRestore s).timer = s.timer := by simp [completeRestore, restartTimer, hd]
    have hready : s.journal.readiness ≠ .ready → depth s = 0 := by
      obtain ⟨-, -, -, -, -, -, -, hready⟩ := h
      exact hready
    exact timerSound_of_off h (by simpa [paramsInRange] using h.1) (by rw [htimer]) (by rwa [htimer])
      (by simp [completeRestore]) (by simp [hrestore])
      (by simp [hquiesce]) (by simpa using hready)

/-- The engine in RESTORE, the restore entry being free, goes on or is complete (R118, R119, R123). -/
theorem timerSound_continueRestore {s : State} (h : timerSound s) (hporn : s.porn = true) (hquiesce : s.link.quiesce = none)
    (hstate : s.engine.state = .restore) (hrestore : s.tracker.restore = none) : timerSound (continueRestore s) := by
  have hfreed : ∀ k, timerSound (freeAtTail k s) := fun k => timerSound_of_view h (freeAtTail_timerView k s)
  have hdepth : 1 ≤ depth s := by
    obtain ⟨-, -, -, hengine, -⟩ := h
    exact hengine (by simp [hstate])
  rcases continueRestore_cases s with ⟨he, -⟩ | ⟨target, -, ⟨-, he⟩ | ⟨-, he⟩⟩ <;> rw [he]
  · exact h
  · exact timerSound_completeRestore (hfreed _) (by simpa using hporn) (by simpa using hquiesce) (by simpa using hdepth)
      (by simpa using hrestore)
  · obtain ⟨hparams, hdescribed, hrange, hengine, -, hoff, hquiet, hready⟩ := hfreed (voidRun s.journal.ring target.distance)
    refine ⟨by simpa [paramsInRange] using hparams, by simpa [timerAsDescribed] using hdescribed,
      by simpa [timerInRange] using hrange, ?_⟩
    simp only [timerSetting, handRestore_engine, handRestore_depth, handRestore_porn, handRestore_timer, handRestore_link,
      handRestore_journal]
    exact ⟨hengine, fun _ => by simpa using hstate, hoff, hquiet, hready⟩

/-- The drain test (R115). A quiesce would have set the stopping mark, so none is under way when the test succeeds (R129). -/
theorem timerSound_drainTest {s : State} (h : timerSound s) (hporn : s.porn = true) : timerSound (drainTest s) := by
  rcases drainTest_cases s with ⟨he, -⟩ | ⟨hdrain, hstopping, -, he⟩ <;> rw [he]
  · exact h
  · obtain ⟨hparams, ⟨hstill, hrunning, hsuspended⟩, hrange, hengine, hrestore, hoff, hquiet, hready⟩ := h
    have hquiesce : s.link.quiesce = none := by
      by_contra hq
      have := (hquiet hq).2 (.inl hdrain)
      simp [hstopping] at this
    have hnone : s.tracker.restore = none := by
      by_contra hr
      simpa [hdrain] using hrestore hr
    refine timerSound_continueRestore ⟨hparams, ⟨hstill, fun hrun => ?_, fun hsus => ?_⟩, hrange, ?_⟩ hporn hquiesce rfl hnone
    · obtain ⟨-, hidle, -⟩ := hrunning hrun
      simp [hdrain] at hidle
    · obtain ⟨hopen, -, hon⟩ := hsuspended hsus
      exact ⟨hopen, by simp, hon⟩
    · exact ⟨fun _ => hengine (by simp [hdrain]), fun hr => absurd hnone hr, hoff, fun hq => absurd hquiesce hq, hready⟩

/-- The acceptance of a rollback suspends the timer (R112, R142). -/
theorem timerSound_acceptRollback {s : State} {k : Nat} {target : Checkpoint} (h : timerSound s) (hporn : s.porn = true)
    (hquiesce : s.link.quiesce = none) (hready : s.journal.readiness = .ready)
    (hfree : s.engine.state = .idle ∨ s.engine.state = .failed) (hk : s.stack.checkpoints[k]? = some target) :
    timerSound (acceptRollback k s) := by
  have hdepth : 1 ≤ depth (rollbackEntered k target s) := by
    obtain ⟨hlt, -⟩ := List.getElem?_eq_some_iff.mp hk
    simp only [depth, rollbackEntered, List.length_take]
    omega
  have hnone : s.tracker.restore = none := by
    obtain ⟨-, -, -, -, hrestore, -⟩ := h
    by_contra hr
    have := hrestore hr
    simp [this] at hfree
  rw [acceptRollback_eq hk]
  refine timerSound_drainTest ?_ hporn
  by_cases hd : s.params.dlEnable = true
  · obtain ⟨hparams, -, hrange, -⟩ := h
    have htimer : (rollbackEntered k target s).timer = { s.timer with state := .suspended, elapsed := 0, divider := 0 } := by
      simp [rollbackEntered, hd]
    refine ⟨hparams, ?_, ?_, ?_⟩
    · rw [timerAsDescribed, htimer]
      exact ⟨by simp, by simp, fun _ => ⟨hdepth, by simp [rollbackEntered], hd⟩⟩
    · obtain ⟨-, -, hlow, hhigh⟩ := hrange
      rw [timerInRange, htimer]
      exact ⟨Nat.zero_le _, by simp, hlow, hhigh⟩
    · exact ⟨fun _ => hdepth, fun hr => absurd hnone hr, fun hp => by simp [rollbackEntered, hporn] at hp,
        fun hq => absurd hquiesce hq, fun hr => absurd hready hr⟩
  · have hoff := timer_off_of_disabled h (by simpa using hd)
    have htimer : (rollbackEntered k target s).timer = s.timer := by simp [rollbackEntered, hd]
    exact timerSound_of_off h h.1 (by rw [htimer]) (by rwa [htimer]) (fun _ => hdepth) (fun hr => absurd hnone hr)
      (fun hq => absurd hquiesce hq) (fun hr => absurd hready hr)

theorem timerSound_failRestore {s : State} (h : timerSound s) (hstate : s.engine.state = .restore)
    (hrestore : s.tracker.restore = none) (hquiesce : s.link.quiesce = none) : timerSound (failRestore s) := by
  obtain ⟨hparams, ⟨hstill, hrunning, hsuspended⟩, hrange, hengine, -, hoff, -, hready⟩ := h
  refine ⟨hparams, ⟨hstill, fun hrun => ?_, fun hsus => ?_⟩, hrange, ?_⟩
  · obtain ⟨-, hidle, -⟩ := hrunning hrun
    simp [hstate] at hidle
  · obtain ⟨hopen, -, hon⟩ := hsuspended hsus
    exact ⟨hopen, by simp [failRestore], hon⟩
  · exact ⟨fun _ => hengine (by simp [hstate]), fun hr => absurd hrestore hr, hoff, fun hq => absurd hquiesce hq, hready⟩

/-! ## The commands of the link -/

/-- While a checkpoint stays open with the journal READY, it does not matter which. -/
theorem timerSound_of_stack {s : State} {stack : Stack} (h : timerSound s) (hready : s.journal.readiness = .ready)
    (hdepth : 1 ≤ stack.checkpoints.length) : timerSound { s with stack := stack } := by
  obtain ⟨hparams, ⟨hstill, hrunning, hsuspended⟩, hrange, -, hrestore, hoff, hquiet, -⟩ := h
  exact ⟨hparams, ⟨hstill, fun hrun => ⟨hdepth, (hrunning hrun).2⟩, fun hsus => ⟨hdepth, (hsuspended hsus).2⟩⟩, hrange,
    fun _ => hdepth, hrestore, hoff, hquiet, fun hr => absurd hready hr⟩

/-- A MARK opens a checkpoint and restarts the timer (R96). -/
theorem timerSound_acceptMark {s : State} (h : timerSound s) (hporn : s.porn = true) (hquiesce : s.link.quiesce = none)
    (hready : s.journal.readiness = .ready) (hidle : s.engine.state = .idle) : timerSound (acceptMark s) := by
  have hdepth : 1 ≤ depth (promoteIfDirty (pushCheckpoint s)) := by simp [depth, pushCheckpoint]
  have hpushed : timerSound (promoteIfDirty (pushCheckpoint s)) :=
    timerSound_of_view (timerSound_of_stack (stack := (pushCheckpoint s).stack) h hready (by simp [pushCheckpoint]))
      (by simp [timerView, depth])
  exact timerSound_of_view (timerSound_restartTimer hpushed (by simpa using hporn) (by simpa using hquiesce) hdepth
    (by simpa using hidle)) rfl

/-- After a RELEASE, with the engine IDLE, the timer restarts, or goes OFF at depth 0 (R100). -/
theorem timerSound_timerAfterRelease {s : State} (h : timerSound s) (hporn : s.porn = true) (hquiesce : s.link.quiesce = none)
    (hready : s.journal.readiness = .ready) (hidle : s.engine.state = .idle) (stack : Stack) (epochs : List Epoch) :
    timerSound (timerAfterRelease (abandonEpochs epochs { s with stack := stack })) := by
  have hnone : s.tracker.restore = none := by
    obtain ⟨-, -, -, -, hrestore, -⟩ := h
    by_contra hr
    simpa [hidle] using hrestore hr
  unfold timerAfterRelease
  split
  · exact timerSound_of_off h (by simpa [paramsInRange] using h.1) (by simp [stopTimer]) ⟨rfl, rfl, rfl⟩ (by simp [hidle])
      (by simp [hnone]) (by simp [hquiesce]) (by simp [hready])
  · rename_i hopen
    have hdepth : 1 ≤ stack.checkpoints.length := by simpa [depth, Nat.one_le_iff_ne_zero, List.length_pos_iff] using hopen
    have hgiven : timerSound (abandonEpochs epochs { s with stack := stack }) :=
      timerSound_of_view (timerSound_of_stack h hready hdepth) (by simp [timerView, depth])
    exact timerSound_restartTimer hgiven (by simpa using hporn) (by simpa using hquiesce) (by simpa [depth] using hdepth)
      (by simpa using hidle)

/-- A change of DL_ENABLE acts on the timer at once (R138). -/
theorem timerSound_timerAtEnable {s : State} {params : Params} (h : timerSound s) (hporn : s.porn = true)
    (hquiesce : s.link.quiesce = none) (hparams : paramsInRange { s with params := params })
    (hchange : s.params.dlEnable = !params.dlEnable) : timerSound (timerAtEnable { s with params := params }) := by
  obtain ⟨-, -, hrange, hset⟩ := id h
  obtain ⟨hengine, hrestore, -, -, hready⟩ := id hset
  have hwritten : ∀ timer : Timer, timer.period = s.timer.period →
      timer.state = .off ∧ timer.elapsed = 0 ∧ timer.divider = 0 →
      timerSound { s with params := params, timer := timer } := fun timer hperiod hoff =>
    timerSound_of_off h hparams hperiod hoff hengine hrestore (fun hq => absurd hquiesce hq) hready
  unfold timerAtEnable
  split
  · exact hwritten _ rfl ⟨rfl, rfl, rfl⟩
  · rename_i hon
    have hon : params.dlEnable = true := by simpa using hon
    have hoff := hwritten s.timer rfl (timer_off_of_disabled h (by simp [hchange, hon]))
    split
    · exact hoff
    · rename_i hdepth
      have hopen : 1 ≤ depth s := Nat.one_le_iff_ne_zero.mpr hdepth
      split
      · rename_i hidle
        exact timerSound_restartTimer hoff hporn hquiesce hopen hidle
      · rename_i hbusy
        obtain ⟨-, -, hlow, hhigh⟩ := hrange
        rw [suspendTimer, if_pos hon]
        exact ⟨hparams, ⟨by simp, by simp, fun _ => ⟨hopen, hbusy, hon⟩⟩, ⟨Nat.zero_le _, by simp, hlow, hhigh⟩, hengine,
          hrestore, by simp [hporn], by simp [hquiesce], hready⟩

theorem timerSound_storeDlEnable {s : State} (h : timerSound s) (hporn : s.porn = true) (hquiesce : s.link.quiesce = none)
    (v : Nat) : timerSound (storeDlEnable v s) := by
  unfold storeDlEnable
  split
  · exact h
  · exact timerSound_timerAtEnable h hporn hquiesce h.1 (Bool.eq_not_of_ne ‹_›)

/-! ## Resets and the operations of the M-port -/

theorem markOutstanding_timerView (entry : EntryId) (s : State) :
    timerView { s with mport := { s.mport with presented := none }, tracker := markOutstanding entry s.tracker } =
      timerView s := by
  cases entry <;> simp [timerView, markOutstanding, depth]

theorem timerSound_powerOffValues {s : State} (h : timerSound s) : timerSound (powerOffValues s) := by
  obtain ⟨hparams, -⟩ := h
  refine ⟨hparams, ?_⟩
  simp [timerAsDescribed, timerInRange, timerSetting, powerOffValues, State.reset, depth]

theorem timerSound_powerOnValues (s : State) : timerSound (powerOnValues s) := by
  simp [timerSound, paramsInRange, timerAsDescribed, timerInRange, timerSetting, powerOnValues, State.reset, depth]

theorem timerSound_journalReady {s : State} (h : timerSound s) :
    timerSound (setFlag .ready { s with journal := { readiness := .ready, head := 0, ring := [] } }) := by
  obtain ⟨hparams, hdescribed, hrange, hengine, hrestore, hoff, hquiet, -⟩ := h
  exact ⟨hparams, hdescribed, hrange, hengine, hrestore, hoff, hquiet, fun hr => absurd rfl hr⟩

/-- A timer that counts is met only outside a quiesce (R142). -/
theorem quiesce_none_of_counting {s : State} (h : timerSound s)
    (hcounts : s.timer.state = .running ∨ s.timer.state = .warned) : s.link.quiesce = none := by
  obtain ⟨-, -, -, -, -, -, hquiet, -⟩ := h
  by_contra hq
  simp [(hquiet hq).1] at hcounts

/-- The first expiry leaves the timer WARNED with elapsed time 0 (R140). -/
theorem timerSound_firstExpiry {s : State} (h : timerSound s) (hporn : s.porn = true) (hd : firstExpiryDue s = true) :
    timerSound (setFlag .dlwarn { s with timer := { s.timer with state := .warned, elapsed := 0, divider := 0 } }) := by
  have hrun : s.timer.state = .running := by simp_all [firstExpiryDue]
  have hquiesce := quiesce_none_of_counting h (.inl hrun)
  obtain ⟨hparams, ⟨-, hrunning, -⟩, ⟨-, -, hlow, hhigh⟩, hengine, hrestore, -, -, hready⟩ := h
  exact ⟨hparams, ⟨by simp, fun _ => hrunning (.inl hrun), by simp⟩, ⟨Nat.zero_le _, by simp, hlow, hhigh⟩, hengine, hrestore,
    by simp [hporn], fun hq => absurd hquiesce hq, hready⟩

theorem secondExpiryDue_cases {s : State} (h : secondExpiryDue s = true) :
    s.timer.state = .warned ∧ s.journal.readiness = .ready ∧ (s.engine.state = .idle ∨ s.engine.state = .failed) := by
  simp_all [secondExpiryDue, journalIsReady]

/-! ## The effects -/

/-- Under power and outside a quiesce a command of the link keeps the timer sound (R96, R100, R103, R112, R138). -/
theorem Execution.timerSound {c : Instr} {s u : State} (he : Execution c s u) (h : timerSound s) (hporn : s.porn = true)
    (hquiesce : s.link.quiesce = none) : timerSound u := by
  have hidleRestore : s.engine.state ≠ .restore → s.tracker.restore = none := by
    obtain ⟨-, -, -, -, hrestore, -⟩ := h
    exact fun hne => by_contra fun hr => hne (hrestore hr)
  cases he with
  | clearEvents | ackCapture | writeDefaultPolicy | writeDlTarget | writeEventEnable | applyRegions => exact h
  | stageRegion | clearStaged | revertStaged => exact h
  | writeFullAction f v =>
    unfold storeFullAction
    dsimp only
    split <;> exact h
  | setRegionState f i v =>
    unfold setSoftwareState
    dsimp only
    split <;> exact h
  | writeJhighLevel f v hv =>
    obtain ⟨⟨-, hwait, hperiod⟩, hrest⟩ := h
    exact ⟨⟨hv, hwait, hperiod⟩, hrest⟩
  | writeWaitLimit f v hv =>
    obtain ⟨⟨hhigh, -, hperiod⟩, hrest⟩ := h
    exact ⟨⟨hhigh, hv, hperiod⟩, hrest⟩
  | writeDlPeriod f v hv =>
    obtain ⟨⟨hhigh, hwait, -⟩, hrest⟩ := h
    exact ⟨⟨hhigh, hwait, hv⟩, hrest⟩
  | writeDlEnable f v => exact timerSound_storeDlEnable h hporn hquiesce v
  | mark f hready hidle hroom => exact timerSound_acceptMark h hporn hquiesce hready hidle
  | release f n hready hidle hn => exact timerSound_timerAfterRelease h hporn hquiesce hready hidle _ _
  | rollback f k target hready hfree hk => exact timerSound_acceptRollback h hporn hquiesce hready hfree hk
  | discard f hready hfree =>
    refine timerSound_of_off h (by simpa [paramsInRange] using h.1) (by simp [acceptDiscard, stopTimer])
      (by simp [acceptDiscard, stopTimer])
      (by simp [acceptDiscard]) (fun hr => ?_) (by simp [hquiesce]) (by simp [acceptDiscard, hready])
    refine absurd (hidleRestore fun hs => ?_) (by simpa using hr)
    simp [hs] at hfree

theorem timerSound_softResetValues (toggle : Bool) (s : State) : timerSound (softResetValues toggle s) := by
  simp [timerSound, paramsInRange, timerAsDescribed, timerInRange, timerSetting, softResetValues, State.reset, depth]

theorem timerSound_settleQuiesce {s : State} (h : timerSound s) : timerSound (settleQuiesce s) :=
  settleQuiesce_keeps h fun toggle => timerSound_softResetValues toggle s

theorem timerSound_offerNext {s : State} (h : timerSound s) : timerSound (offerNext s) :=
  timerSound_of_view h (offerNext_timerView s)

theorem timerSound_giveUp {s : State} (h : timerSound s) (hporn : s.porn = true) (holder : Holder) (r : Request) :
    timerSound (giveUp holder r s) := by
  cases holder with
  | taking | intakeHead => exact h
  | waiting p => exact timerSound_of_view h (leaveWaitList_timerView _ s)
  | host id =>
    exact timerSound_drainTest (s := release (.retired (requestLine r))
      { s with tracker := { s.tracker with hosts := s.tracker.hosts.filter fun e => e.id ≠ id } }) h hporn

theorem timerSound_afterTaking {s : State} (hs : timerSound s) (hporn : s.porn = true) (h : Holder) (r : Request) (a : Ready) :
    timerSound (afterTaking h r a s) := by
  have hcaptured : timerSound (captureResponse (currentEpoch s) r a { s with hport := { s.hport with offered := none } }) :=
    timerSound_of_view hs (captureResponse_timerView _ r a _)
  exact timerSound_of_view (timerSound_giveUp hcaptured (by simpa using hporn) h r) (unstall_timerView h _)

theorem timerSound_hostAnswered {s : State} (h : timerSound s) (hporn : s.porn = true) (e : HostEntry) (a : MemAnswer) :
    timerSound (hostAnswered e a s) := by
  rcases hostAnswered_cases e a s with ⟨-, he⟩ | ⟨phase, op, n, ⟨-, he⟩ | ⟨-, he⟩⟩ <;> rw [he]
  · exact h
  · exact h
  · exact timerSound_drainTest (timerSound_of_view h (settleEntryRecord_timerView e a (entryMoved e phase op n s)))
      (by simpa using hporn)

/-- The answer to a RESTORE. In a quiesce the engine is stopping, so the timer stays OFF (R129, R142). -/
theorem timerSound_restoreAnswered {s : State} {e : RestoreEntry} (h : timerSound s) (hporn : s.porn = true)
    (he : s.tracker.restore = some e) (a : MemAnswer) :
    timerSound (restoreAnswered e a { s with tracker := { s.tracker with restore := none } }) := by
  have hstate : s.engine.state = .restore := by
    obtain ⟨-, -, -, -, hrestore, -⟩ := h
    exact hrestore (by simp [he])
  have hquiesce : s.engine.stopping = false → s.link.quiesce = none := by
    obtain ⟨-, -, -, -, -, -, hquiet, -⟩ := h
    intro hstopping
    by_contra hq
    have := (hquiet hq).2 (.inr hstate)
    simp [hstopping] at this
  have hfree : ∀ retry, timerSound { s with
      engine := { s.engine with retry := retry }, tracker := { s.tracker with restore := none } } := by
    obtain ⟨hparams, hdescribed, hrange, hengine, -, hset⟩ := h
    exact fun retry => ⟨hparams, hdescribed, hrange, hengine, fun hr => absurd rfl hr, hset⟩
  have hfreed := timerSound_of_view (hfree false) (freeAtTail_timerView 1 _)
  rcases restoreAnswered_cases e a { s with tracker := { s.tracker with restore := none } } with
    ⟨-, hc⟩ | ⟨hstopping, hc⟩ | ⟨-, hc⟩ | ⟨hstopping, hc⟩ | ⟨-, hc⟩ <;> rw [hc]
  · exact hfreed
  · exact timerSound_continueRestore hfreed (by simpa using hporn) (by simpa using hquiesce hstopping) (by simpa using hstate)
      (by simp)
  · exact hfree false
  · exact timerSound_failRestore (hfree s.engine.retry) hstate rfl (hquiesce hstopping)
  · exact timerSound_of_view h (by simp [timerView, he, depth])

theorem timerSound_beginSoftReset {s : State} (h : timerSound s) (toggle : Bool) : timerSound (beginSoftReset toggle s) := by
  obtain ⟨-, -, -, hengine, hrestore, -, -, hready⟩ := id h
  refine timerSound_settleQuiesce (timerSound_offerNext (timerSound_of_off h h.1 rfl ⟨rfl, rfl, rfl⟩ hengine hrestore
    (fun _ hbusy => by simpa using hbusy) fun hr => hready fun hr' => hr ?_))
  simp [bumpReady, hr', abandonInitialisation]

/-- Every effect keeps the timer sound. -/
theorem Effect.timerSound {c : Instr} {s t : State} (he : Effect c s t) (h : timerSound s) : timerSound t := by
  cases he with
  | nothing | issueGrant | quietIntervalEnd => exact h
  | link l _ hq => exact timerSound_of_view h (by simp [timerView, hq, depth])
  | executed f status payload _ hr hu =>
    obtain ⟨hporn, hquiesce, -⟩ := hr
    exact timerSound_of_view (hu.timerSound h hporn hquiesce) (by simp [timerView, hu.link_eq, depth])
  | softReset f _ => exact timerSound_beginSoftReset h f.toggle
  | softResetStep4 _ => exact timerSound_settleQuiesce h
  | takeRequest r _ => exact timerSound_of_view h (takeRequest_timerView r s)
  | responseTaken holder r a hporn _ _ =>
    exact timerSound_settleQuiesce (timerSound_offerNext (timerSound_afterTaking h hporn holder r a))
  | examination subject hn => exact timerSound_offerNext (timerSound_of_view h (examineSubject_timerView hn))
  | waitExpiry place _ => exact timerSound_offerNext h
  | operationAccepted op _ => exact timerSound_of_view h (markOutstanding_timerView op.entry s)
  | hostAnswer identity a id e hporn _ =>
    exact timerSound_settleQuiesce (timerSound_offerNext (timerSound_hostAnswered h hporn e a))
  | restoreAnswer identity a e hporn he _ => exact timerSound_settleQuiesce (timerSound_restoreAnswered h hporn he a)
  | pornAssert => exact timerSound_powerOffValues h
  | pornRelease => exact timerSound_powerOnValues s
  | journalReady => exact timerSound_journalReady h
  | firstExpiry hporn hd => exact timerSound_firstExpiry h hporn hd
  | secondExpiry k target hporn hd hk =>
    obtain ⟨hwarned, hready, hfree⟩ := secondExpiryDue_cases hd
    exact timerSound_acceptRollback (s := setFlag .dlroll s) h hporn (quiesce_none_of_counting h (.inr hwarned)) hready hfree hk

/-! ## The passing of time -/

/-- A timer whose elapsed time has reached its period has an expiry due, so that no time passes before it is taken (R133,
R140, R141). -/
theorem elapsed_lt_period_of_not_due {s : State} (h : timerSound s) (hd : dueEvent s = none)
    (hcounts : s.timer.state = .running ∨ s.timer.state = .warned) : s.timer.elapsed < s.timer.period := by
  obtain ⟨hdepth, hidle, -⟩ := by
    obtain ⟨-, ⟨-, hrunning, -⟩, -⟩ := h
    exact hrunning hcounts
  obtain ⟨-, -, -, -, -, hoff, -, hready⟩ := h
  have hporn : s.porn = true := by
    by_contra hp
    simp [hoff (by simpa using hp)] at hcounts
  have hjournal : s.journal.readiness = .ready := by
    by_contra hr
    have := hready hr
    omega
  have hnot : firstExpiryDue s = false ∧ secondExpiryDue s = false := by
    unfold dueEvent at hd
    repeat' split at hd
    all_goals simp_all
  obtain ⟨hfirst, hsecond⟩ := hnot
  by_contra hge
  rcases hcounts with hrun | hwarned
  · simp_all [firstExpiryDue]
  · simp_all [secondExpiryDue, journalIsReady]

/-- One µs counts in RUNNING and WARNED: the divider, or from 999 the elapsed time (R135). -/
theorem tickTimer_counting {timer : Timer} (h : timer.state = .running ∨ timer.state = .warned) :
    tickTimer timer =
      if timer.divider + 1 = 1000 then { timer with elapsed := timer.elapsed + 1, divider := 0 }
      else { timer with divider := timer.divider + 1 } := by
  unfold tickTimer
  rcases h with h | h <;> rw [h] <;> rfl

/-- In OFF and SUSPENDED time does not count (R133). -/
theorem tickTimer_still {timer : Timer} (h : timer.state = .off ∨ timer.state = .suspended) : tickTimer timer = timer := by
  unfold tickTimer
  rcases h with h | h <;> rw [h]

theorem timerSound_tick {s : State} (h : timerSound s) (hd : dueEvent s = none) : timerSound (tick s) := by
  by_cases hcounts : s.timer.state = .running ∨ s.timer.state = .warned
  · have hlt := elapsed_lt_period_of_not_due h hd hcounts
    obtain ⟨hparams, ⟨hstill, hrunning, hsuspended⟩, ⟨-, hdivider, hlow, hhigh⟩, hset⟩ := h
    have htick : (tick s).timer = tickTimer s.timer := rfl
    rw [tickTimer_counting hcounts] at htick
    have hstate : (tick s).timer.state = s.timer.state := by rw [htick]; split <;> rfl
    refine ⟨hparams, ?_, ?_, ?_⟩
    · rw [timerAsDescribed, hstate]
      refine ⟨fun hs => ?_, hrunning, hsuspended⟩
      rcases hcounts with hc | hc <;> simp [hc] at hs
    · rw [timerInRange, htick]
      split <;> exact ⟨by dsimp only; omega, by dsimp only; omega, hlow, hhigh⟩
    · rw [timerSetting, hstate]
      exact hset
  · have hstill : s.timer.state = .off ∨ s.timer.state = .suspended := by
      cases hs : s.timer.state <;> simp_all
    have htick : tick s = { s with now := s.now + 1 } := by rw [tick, tickTimer_still hstill]
    rw [htick]
    exact h

/-- Settles O13: every effect keeps `timerSound`, and 1 µs passes only while no expiry is due. -/
theorem stepKeepsTimerSound : Obligations.StepKeepsTimerSound := fun _ _ hs hstep =>
  step_keeps (P := timerSound) (fun _ _ h => h) (fun _ _ _ h he => he.timerSound h) (fun _ h hd => timerSound_tick h hd) hs hstep

end Sys2Proof.Machine
end

section
/-!
PROOFS. Custody: every effect keeps the outstanding set equal to the pairs of the requests in the intake queue, the wait list
and the host entries, and one host entry to an identity and to a line (R6, R10, R60).
-/

namespace Sys2Proof.Machine

/-! ## What the invariant looks at -/

/-- The identity and the request of each host entry in use, in order of creation. -/
def hostKeys (s : State) : List (HostId × Request) := s.tracker.hosts.map fun e => (e.id, e.request)

/-- The requests of the intake queue, in its order. -/
def intakeRequests (s : State) : List Request := s.hport.intake.map IntakeEntry.request

/-- All that `custodyExact` looks at. -/
def custodyView (s : State) : List Request × List Request × List (HostId × Request) × List Pair :=
  (intakeRequests s, waitRequests s, hostKeys s, s.hport.outstanding)

theorem custodyPairs_eq (s : State) :
    custodyPairs s =
      (intakeRequests s).map requestPair ++ (waitRequests s).map requestPair ++
        (hostKeys s).map fun x => requestPair x.2 := by
  simp [custodyPairs, intakeRequests, waitRequests, hostKeys, Function.comp_def]

theorem trackerOrderly_iff (s : State) :
    trackerOrderly s ↔ ((hostKeys s).map Prod.fst).Nodup ∧ ((hostKeys s).map fun x => requestLine x.2).Nodup := by
  simp [trackerOrderly, hostKeys, Function.comp_def]

theorem custodyExact_of_view {s t : State} (h : custodyExact s) (hview : custodyView t = custodyView s) : custodyExact t := by
  simp only [custodyView, Prod.mk.injEq] at hview
  obtain ⟨hintake, hwait, hkeys, houtstanding⟩ := hview
  simpa only [custodyExact, trackerOrderly_iff, custodyPairs_eq, hintake, hwait, hkeys, houtstanding] using h

/-- A part that holds nothing has exact custody. -/
theorem custodyExact_of_empty {s : State} (hintake : s.hport.intake = []) (houtstanding : s.hport.outstanding = [])
    (hwait : s.admission.waitList = []) (hhosts : s.tracker.hosts = []) : custodyExact s := by
  simp [custodyExact, trackerOrderly, custodyPairs, hintake, houtstanding, hwait, hhosts]

/-! ## Requests that arrive, leave and move -/

/-- A request whose pair is not outstanding arrives (R6). -/
theorem custodyExact_of_arrival {s t : State} {p : Pair} (h : custodyExact s) (hp : p ∉ s.hport.outstanding)
    (horderly : trackerOrderly t) (houtstanding : t.hport.outstanding = s.hport.outstanding ++ [p])
    (hpairs : (custodyPairs t).Perm (p :: custodyPairs s)) : custodyExact t := by
  obtain ⟨-, hnodup, hperm⟩ := h
  refine ⟨horderly, ?_, ?_⟩
  · rw [houtstanding, ← List.concat_eq_append]
    exact hnodup.concat hp
  · rw [houtstanding]
    exact (List.perm_append_singleton p _).trans ((hperm.cons p).trans hpairs.symm)

/-- A request in custody leaves, and its pair the outstanding set (R6, R8). -/
theorem custodyExact_of_departure {s t : State} {p : Pair} (h : custodyExact s) (horderly : trackerOrderly t)
    (houtstanding : t.hport.outstanding = s.hport.outstanding.erase p)
    (hpairs : (custodyPairs s).Perm (p :: custodyPairs t)) : custodyExact t := by
  obtain ⟨-, hnodup, hperm⟩ := h
  refine ⟨horderly, ?_, ?_⟩
  · rw [houtstanding]
    exact hnodup.erase p
  · rw [houtstanding]
    simpa using (hperm.trans hpairs).erase p

/-- A request moves from one place of custody to another (R10). -/
theorem custodyExact_of_move {s t : State} (h : custodyExact s) (horderly : trackerOrderly t)
    (houtstanding : t.hport.outstanding = s.hport.outstanding) (hpairs : (custodyPairs t).Perm (custodyPairs s)) :
    custodyExact t := by
  obtain ⟨-, hnodup, hperm⟩ := h
  exact ⟨horderly, houtstanding ▸ hnodup, houtstanding ▸ hperm.trans hpairs.symm⟩

/-! ## The tracker -/

/-- In an orderly tracker an identity names one entry (R60). -/
theorem host_eq_of_id_eq {s : State} (h : trackerOrderly s) {e e' : HostEntry} (he : e ∈ s.tracker.hosts)
    (he' : e' ∈ s.tracker.hosts) (hid : e'.id = e.id) : e' = e :=
  List.inj_on_of_nodup_map h.1 he' he hid

/-- Replacing the entry of an identity by one for the same request keeps every key, in an orderly tracker. -/
theorem entryMoved_hostKeys {s : State} (h : trackerOrderly s) {e : HostEntry} (he : e ∈ s.tracker.hosts) (phase : Phase)
    (op : OpState) (n : Nat) : hostKeys (entryMoved e phase op n s) = hostKeys s := by
  simp only [hostKeys, entryMoved, setHost, List.map_map]
  refine List.map_congr_left fun e' he' => ?_
  simp only [Function.comp]
  split
  · rename_i hid
    rw [host_eq_of_id_eq h he he' hid]
  · rfl

/-- Retiring an identity takes its one entry out of the tracker (R63). -/
theorem hosts_perm_filter {s : State} (h : trackerOrderly s) {e : HostEntry} (he : e ∈ s.tracker.hosts) :
    s.tracker.hosts.Perm (e :: s.tracker.hosts.filter fun x => x.id ≠ e.id) := by
  obtain ⟨before, after, hsplit⟩ := List.append_of_mem he
  have hother : ∀ x ∈ before ++ after, x.id ≠ e.id := by
    have hids := h.1
    rw [hsplit, List.map_append, List.map_cons, List.nodup_middle, ← List.map_append, List.nodup_cons] at hids
    exact fun x hx hid => hids.1 (hid ▸ List.mem_map_of_mem hx)
  have hfilter : (s.tracker.hosts.filter fun x => x.id ≠ e.id) = before ++ after := by
    rw [hsplit, List.filter_append, List.filter_cons_of_neg (by simp), ← List.filter_append, List.filter_eq_self]
    simpa using hother
  rw [hfilter, hsplit]
  exact List.perm_middle

theorem trackerOrderly_of_sublist {s t : State} (h : trackerOrderly s) (hsub : t.tracker.hosts.Sublist s.tracker.hosts) :
    trackerOrderly t :=
  ⟨h.1.sublist (hsub.map _), h.2.sublist (hsub.map _)⟩

/-- A new entry takes an identity that is free and a line that no entry is for (R46, R48). -/
theorem trackerOrderly_addHost {s : State} {r : Request} {earlier : List WaitEntry} {id : HostId}
    (h : trackerOrderly s) (hid : lowestFree s id) (hline : lineIsFree s (requestLine r) earlier) (kind : EntryKind)
    (phase : Phase) (region : Option RegionIndex) : trackerOrderly (addHost id kind phase r region s) := by
  refine ⟨?_, ?_⟩
  · rw [addHost_hosts, List.map_append, List.map_singleton, ← List.concat_eq_append]
    exact h.1.concat (by simpa using hid.1)
  · rw [addHost_hosts, List.map_append, List.map_singleton, ← List.concat_eq_append]
    exact h.2.concat (by simpa using hline.1)

/-! ## The effects -/

theorem offerNext_custodyView (s : State) : custodyView (offerNext s) = custodyView s := by
  simp [custodyView, intakeRequests, hostKeys]

theorem custodyExact_offerNext {s : State} (h : custodyExact s) : custodyExact (offerNext s) :=
  custodyExact_of_view h (offerNext_custodyView s)

theorem custodyExact_softResetValues (toggle : Bool) (s : State) : custodyExact (softResetValues toggle s) :=
  custodyExact_of_empty rfl rfl rfl rfl

theorem custodyExact_settleQuiesce {s : State} (h : custodyExact s) : custodyExact (settleQuiesce s) :=
  settleQuiesce_keeps h fun toggle => custodyExact_softResetValues toggle s

theorem custodyExact_takeRequest {s : State} (h : custodyExact s) (r : Request) : custodyExact (takeRequest r s) := by
  cases hcheck : takingCheck r s with
  | some reason =>
    rw [takeRequest_of_refused hcheck]
    exact custodyExact_offerNext h
  | none =>
    have hfresh : requestPair r ∉ s.hport.outstanding := by
      intro hmem
      by_cases hm : requestMalformed r = true
      · simp [takingCheck_of_malformed hm] at hcheck
      · simp [takingCheck_of_outstanding hm hmem] at hcheck
    rw [takeRequest_of_accepted hcheck]
    refine custodyExact_of_arrival h hfresh h.1 rfl ?_
    simp only [custodyPairs, List.map_append, List.map_singleton, List.append_assoc, List.singleton_append]
    exact List.perm_middle

/-- What becomes of the tracker at a dispatch: one entry more, with a free identity, for this request (R48). -/
theorem dispatch_hostKeys (id : HostId) (region : Option RegionIndex) (journaled : Bool) (r : Request) (s : State) :
    hostKeys (dispatch id region journaled r s) = hostKeys s ++ [(id, r)] := by
  unfold dispatch
  split <;> simp [hostKeys]

theorem trackerOrderly_dispatch {s : State} {r : Request} {earlier : List WaitEntry} {id : HostId}
    {region : Option RegionIndex} {journaled : Bool} (h : trackerOrderly s)
    (hv : examine s r earlier = .dispatch id region journaled) : trackerOrderly (dispatch id region journaled r s) := by
  obtain ⟨⟨-, -, hline, hid, -⟩, -⟩ := dispatchedBy_of_examine hv
  have hadd := trackerOrderly_addHost h hid hline .read .mem region
  rw [trackerOrderly_iff] at hadd ⊢
  rw [dispatch_hostKeys]
  simpa [hostKeys] using hadd

/-- The entry at a place of the wait list, taken out of it. -/
theorem waitRequests_perm_eraseIdx {s : State} {k : Nat} {e : WaitEntry} (hk : s.admission.waitList[k]? = some e) :
    (waitRequests s).Perm (e.request :: (waitRequests s).eraseIdx k) := by
  obtain ⟨hlt, he⟩ := List.getElem?_eq_some_iff.mp hk
  have hget : (waitRequests s)[k]'(by simpa [waitRequests] using hlt) = e.request := by
    simp [waitRequests, he]
  rw [← hget]
  exact (List.getElem_cons_eraseIdx_perm _).symm

theorem custodyExact_applyToWaiting {s : State} {k : Nat} {e : WaitEntry} {v : Verdict} (h : custodyExact s)
    (hk : s.admission.waitList[k]? = some e) (hv : v = examine s e.request (s.admission.waitList.take k)) :
    custodyExact (applyToWaiting k e v (noteFull v s)) := by
  cases v with
  | dispatch id region journaled =>
    have hk' : (dispatch id region journaled e.request s).admission.waitList[k]? = some e := by simpa using hk
    have hkeys : hostKeys (leaveWaitList k (dispatch id region journaled e.request s)) = hostKeys s ++ [(id, e.request)] := by
      simpa [hostKeys] using dispatch_hostKeys id region journaled e.request s
    have hwait := waitRequests_perm_eraseIdx hk
    refine custodyExact_of_move h ?_ (by simp [applyToWaiting]) ?_
    · simpa [applyToWaiting, trackerOrderly] using trackerOrderly_dispatch h.1 hv.symm
    · simp only [applyToWaiting, noteFull_dispatch, custodyPairs_eq, hkeys, leaveWaitList_waitRequests hk', intakeRequests,
        leaveWaitList_hport, dispatch_hport, dispatch_waitRequests, List.append_assoc]
      refine List.Perm.append_left _ (List.Perm.trans ?_ ((hwait.map requestPair).append_right _).symm)
      rw [List.map_append, List.map_singleton, ← List.append_assoc]
      exact List.perm_append_singleton _ _
  | park reason region =>
    refine custodyExact_of_view h ?_
    simp only [custodyView, applyToWaiting, waitRequests, noteFull_admission, Prod.mk.injEq]
    exact ⟨by simp [intakeRequests], map_request_set hk rfl, by simp [hostKeys], by simp⟩
  | refuse reason region =>
    refine custodyExact_of_view h ?_
    simp only [custodyView, applyToWaiting, waitRequests, noteFull_admission, Prod.mk.injEq]
    exact ⟨by simp [intakeRequests], map_request_set hk rfl, by simp [hostKeys], by simp⟩

theorem custodyExact_applyToHead {s : State} {r : Request} {rest : List IntakeEntry} {v : Verdict} (h : custodyExact s)
    (hi : s.hport.intake = ⟨r, none⟩ :: rest) (hv : v = examine s r s.admission.waitList) :
    custodyExact (applyToHead r rest v (noteFull v s)) := by
  cases v with
  | dispatch id region journaled =>
    have horderly := trackerOrderly_dispatch h.1 hv.symm
    refine custodyExact_of_move h horderly (by simp [applyToHead]) ?_
    have hkeys : hostKeys (applyToHead r rest (.dispatch id region journaled) s) = hostKeys s ++ [(id, r)] :=
      dispatch_hostKeys id region journaled r s
    have hwait : waitRequests (applyToHead r rest (.dispatch id region journaled) s) = waitRequests s :=
      dispatch_waitRequests id region journaled r s
    rw [noteFull_dispatch, custodyPairs_eq, custodyPairs_eq, hkeys, hwait]
    simp only [intakeRequests, applyToHead, hi, List.map_cons, List.map_append, List.map_nil, List.cons_append,
      ← List.append_assoc]
    exact List.perm_append_singleton _ _
  | park reason region =>
    have hn : custodyExact (noteFull (.park reason region) s) := custodyExact_of_view h (by
      simp [custodyView, intakeRequests, hostKeys])
    simp only [applyToHead]
    split
    · refine custodyExact_of_move h (by simpa [trackerOrderly] using h.1) (by simp) ?_
      simp only [custodyPairs, hi, noteFull_admission, noteFull_tracker, List.map_append, List.map_cons, List.map_nil,
        List.append_assoc, List.cons_append, List.nil_append]
      rw [← List.append_assoc]
      refine List.perm_middle.trans ?_
      rw [List.append_assoc]
    · exact hn
  | refuse reason region =>
    refine custodyExact_of_view h ?_
    simp [custodyView, applyToHead, intakeRequests, hostKeys, hi, waitRequests]

theorem custodyExact_examineSubject {s : State} {subject : Subject} (h : custodyExact s)
    (hn : nextSubject s = some subject) : custodyExact (examineSubject subject s) := by
  rcases examineSubject_cases hn with ⟨k, e, hk, -, v, hv, he⟩ | ⟨r, rest, hi, v, hv, he⟩ <;> rw [he]
  · exact custodyExact_applyToWaiting h hk hv
  · exact custodyExact_applyToHead h hi hv

/-- The holder that gives up its request takes its pair out of custody and, but for the taking register, out of the
outstanding set (R4, R6, R8). -/
theorem custodyExact_giveUp {s : State} {holder : Holder} {r : Request} {a : Ready} (h : custodyExact s)
    (ha : answerOf s holder = some (r, a)) : custodyExact (giveUp holder r s) := by
  cases holder with
  | taking => exact h
  | intakeHead =>
    obtain ⟨rest, hi⟩ := answerOf_intakeHead_iff.mp ha
    refine custodyExact_of_departure h h.1 rfl ?_
    simp [custodyPairs, giveUp, hi]
  | waiting p =>
    obtain ⟨e, he, rfl, -⟩ := answerOf_waiting_iff.mp ha
    obtain ⟨hk, -⟩ := waitList_findIdx he
    refine custodyExact_of_departure (p := requestPair e.request) h (by simpa [giveUp, trackerOrderly] using h.1)
      (by simp [giveUp]) ?_
    have hwait := (waitRequests_perm_eraseIdx hk).map requestPair
    simp only [custodyPairs_eq, giveUp, dropPair_waitRequests, leaveWaitList_waitRequests hk, intakeRequests, hostKeys,
      dropPair_intake, leaveWaitList_hport, dropPair_tracker, leaveWaitList_tracker]
    exact ((hwait.append_left _).trans List.perm_middle).append_right _
  | host id =>
    obtain ⟨e, he, rfl, -⟩ := answerOf_host_iff.mp ha
    obtain rfl : e.id = id := by simpa using List.find?_some he
    have hperm := (hosts_perm_filter h.1 (List.mem_of_find?_eq_some he)).map fun x => requestPair x.request
    refine custodyExact_of_departure (p := requestPair e.request) h
      (trackerOrderly_of_sublist h.1 (by simp [giveUp])) (by simp [giveUp]) ?_
    have hwait : waitRequests (retireHost e.id e.request s) = waitRequests s := retireHost_waitRequests _ _ _
    simp only [custodyPairs_eq, giveUp, dropPair_waitRequests, hwait, intakeRequests, hostKeys, dropPair_intake,
      retireHost_hport, dropPair_tracker, retireHost_hosts, List.map_map]
    exact (hperm.append_left _).trans List.perm_middle

theorem captureResponse_custodyView (epoch : Epoch) (r : Request) (a : Ready) (s : State) :
    custodyView (captureResponse epoch r a s) = custodyView s := by
  simp [custodyView, intakeRequests, hostKeys, waitRequests]

theorem custodyExact_afterTaking {s : State} {holder : Holder} {r : Request} {a : Ready} (h : custodyExact s)
    (ha : answerOf s holder = some (r, a)) : custodyExact (afterTaking holder r a s) := by
  have hcaptured := custodyExact_of_view (t := captureResponse (currentEpoch s) r a
    { s with hport := { s.hport with offered := none } }) h (captureResponse_custodyView _ r a _)
  have hsame : answerOf (captureResponse (currentEpoch s) r a { s with hport := { s.hport with offered := none } }) =
      answerOf s := answerOf_congr (by simp) (by simp) (by simp) (by simp)
  exact custodyExact_of_view (custodyExact_giveUp hcaptured (hsame ▸ ha))
    (by simp [afterTaking, custodyView, intakeRequests, hostKeys])

theorem settleEntryRecord_custodyView (e : HostEntry) (a : MemAnswer) (s : State) :
    custodyView (settleEntryRecord e a s) = custodyView s := by
  simp [custodyView, intakeRequests, hostKeys]

theorem drainTest_custodyView (s : State) : custodyView (drainTest s) = custodyView s := by
  simp [custodyView, intakeRequests, hostKeys]

theorem custodyExact_hostAnswered {s : State} {e : HostEntry} (h : custodyExact s) (he : e ∈ s.tracker.hosts)
    (a : MemAnswer) : custodyExact (hostAnswered e a s) := by
  have hmoved : ∀ phase op n, custodyExact (entryMoved e phase op n s) := fun phase op n =>
    custodyExact_of_view h (by simp [custodyView, intakeRequests, entryMoved_hostKeys h.1 he])
  rcases hostAnswered_cases e a s with ⟨-, hc⟩ | ⟨phase, op, n, ⟨-, hc⟩ | ⟨-, hc⟩⟩ <;> rw [hc]
  · exact h
  · exact hmoved phase op n
  · exact custodyExact_of_view (hmoved phase op n) ((drainTest_custodyView _).trans (settleEntryRecord_custodyView e a _))

theorem restoreAnswered_custodyView (e : RestoreEntry) (a : MemAnswer) (s : State) :
    custodyView (restoreAnswered e a s) = custodyView s := by
  have hfreed : custodyView (freeAtTail 1 { s with engine := { s.engine with retry := false } }) = custodyView s := by
    simp only [custodyView, intakeRequests, hostKeys, freeAtTail_waitRequests, freeAtTail_hport, freeAtTail_tracker]
    rfl
  rcases restoreAnswered_cases e a s with ⟨-, hc⟩ | ⟨-, hc⟩ | ⟨-, hc⟩ | ⟨-, hc⟩ | ⟨-, hc⟩ <;> rw [hc]
  · exact hfreed
  · rw [← hfreed]
    simp [custodyView, intakeRequests, hostKeys]
  · rfl
  · simp [custodyView, intakeRequests, hostKeys]
  · rfl

theorem resetIntakeEntry_request (seq : Nat) (region : Option RegionIndex) (e : IntakeEntry) :
    (resetIntakeEntry seq region e).request = e.request := by
  unfold resetIntakeEntry
  split <;> rfl

theorem resetWaitEntry_request (seq : Nat) (e : WaitEntry) : (resetWaitEntry seq e).request = e.request := by
  unfold resetWaitEntry
  split <;> rfl

theorem resetIntake_requests (seq : Nat) (held : Option HeldHead) (intake : List IntakeEntry) :
    (resetIntake seq held intake).map IntakeEntry.request = intake.map IntakeEntry.request := by
  cases intake <;> simp [resetIntake, resetIntakeEntry_request, Function.comp_def]

/-- Step 2 of a soft reset makes every request answering and moves none (R172). -/
theorem custodyExact_beginSoftReset {s : State} (h : custodyExact s) (toggle : Bool) :
    custodyExact (beginSoftReset toggle s) := by
  refine custodyExact_settleQuiesce (custodyExact_offerNext (custodyExact_of_view h ?_))
  simp [custodyView, intakeRequests, resetIntake_requests, waitRequests, resetWaitEntry_request, hostKeys,
    Function.comp_def]

theorem Execution.custodyView_eq {c : Instr} {s u : State} (he : Execution c s u) : custodyView u = custodyView s := by
  simp only [custodyView, intakeRequests, hostKeys, he.hport_eq, he.hosts_eq, he.waitRequests_eq]

/-- The request of an operation accepted stays that of its entry (R13). -/
theorem markOutstanding_hostKeys (entry : EntryId) (s : State) :
    hostKeys { s with tracker := markOutstanding entry s.tracker } = hostKeys s := by
  cases entry with
  | restore => rfl
  | host id =>
    simp only [hostKeys, markOutstanding, List.map_map]
    refine List.map_congr_left fun e _ => ?_
    simp only [Function.comp]
    split <;> rfl

/-- Every effect keeps custody exact. -/
theorem Effect.custodyExact {c : Instr} {s t : State} (he : Effect c s t) (h : custodyExact s) : custodyExact t := by
  cases he with
  | nothing | link | issueGrant | quietIntervalEnd | journalReady | firstExpiry => exact h
  | executed f status payload _ _ hu => exact custodyExact_of_view h hu.custodyView_eq
  | softReset f _ => exact custodyExact_beginSoftReset h f.toggle
  | softResetStep4 _ => exact custodyExact_settleQuiesce h
  | takeRequest r _ => exact custodyExact_takeRequest h r
  | responseTaken holder r a _ _ ha =>
    exact custodyExact_settleQuiesce (custodyExact_offerNext (custodyExact_afterTaking h ha))
  | examination subject hn => exact custodyExact_offerNext (custodyExact_examineSubject h hn)
  | waitExpiry place _ =>
    exact custodyExact_offerNext (custodyExact_of_view h (by simp [custodyView, intakeRequests, hostKeys]))
  | operationAccepted op _ =>
    refine custodyExact_of_view h ?_
    simp only [custodyView, Prod.mk.injEq]
    exact ⟨rfl, rfl, markOutstanding_hostKeys op.entry s, trivial⟩
  | hostAnswer identity a id e _ he =>
    exact custodyExact_settleQuiesce
      (custodyExact_offerNext (custodyExact_hostAnswered h (List.mem_of_find?_eq_some he) a))
  | restoreAnswer identity a e _ _ _ =>
    exact custodyExact_settleQuiesce (custodyExact_of_view h (restoreAnswered_custodyView e a _))
  | pornAssert | pornRelease => exact custodyExact_of_empty rfl rfl rfl rfl
  | secondExpiry k target _ _ _ =>
    exact custodyExact_of_view h (by simp [custodyView, intakeRequests, hostKeys])

/-- Settles O10: every effect keeps custody exact, and so does the passing of time. -/
theorem stepKeepsCustody : Obligations.StepKeepsCustody := fun _ _ hs hstep =>
  step_keeps (P := custodyExact) (fun _ _ h => h) (fun _ _ _ h he => he.custodyExact h) (fun _ h _ => h) hs hstep

end Sys2Proof.Machine
end

section
/-!
PROOFS. The next-epoch counter (R93): the values it passes are distinct, so that of fewer than 65535 values in use it passes
at most all and stops at the first that is free.
-/

namespace Sys2Proof.Machine

theorem succEpoch_ne_zero (e : Epoch) : succEpoch e ≠ 0#16 := by
  unfold succEpoch
  split <;> bv_omega

/-- The counter runs through 1 to 65535 in turn. -/
theorem succEpoch_iterate_toNat {e : Epoch} (he : e ≠ 0#16) (m : Nat) :
    (succEpoch^[m] e).toNat = (e.toNat - 1 + m) % 65535 + 1 := by
  induction m with
  | zero =>
    have := e.isLt
    simp only [Function.iterate_zero_apply]
    bv_omega
  | succ m ih =>
    rw [Function.iterate_succ_apply']
    generalize succEpoch^[m] e = v at ih
    unfold succEpoch
    split <;> bv_omega

/-- Fewer than 65535 values in a row are distinct. -/
theorem succEpoch_iterate_injOn {e : Epoch} (he : e ≠ 0#16) {i j : Nat} (hi : i < 65535) (hj : j < 65535)
    (h : succEpoch^[i] e = succEpoch^[j] e) : i = j := by
  have hnat := congrArg BitVec.toNat h
  rw [succEpoch_iterate_toNat he, succEpoch_iterate_toNat he] at hnat
  omega

/-- The counter passes values in use, and stops at the first that is free or when its fuel is spent. -/
theorem nextFree_eq_iterate (inUse : List Epoch) (fuel : Nat) (e : Epoch) :
    ∃ n ≤ fuel, nextFree inUse fuel e = succEpoch^[n + 1] e ∧ (∀ m < n, succEpoch^[m + 1] e ∈ inUse) ∧
      (nextFree inUse fuel e ∈ inUse → n = fuel) := by
  induction fuel generalizing e with
  | zero => exact ⟨0, le_rfl, rfl, by simp, fun _ => rfl⟩
  | succ fuel ih =>
    unfold nextFree
    split
    · rename_i hused
      obtain ⟨n, hn, heq, hpassed, hspent⟩ := ih (succEpoch e)
      refine ⟨n + 1, by omega, heq, fun m hm => ?_, fun h => by rw [hspent h]⟩
      cases m with
      | zero => exact hused
      | succ m => exact hpassed m (by omega)
    · rename_i hfree
      exact ⟨0, by omega, rfl, by simp, fun h => absurd h hfree⟩

/-- With fuel for every value in use, the counter stops at the first value that is free. -/
theorem nextFree_spec {inUse : List Epoch} {e : Epoch} (he : e ≠ 0#16) (hlen : inUse.length + 1 < 65535) :
    ∃ n, nextFree inUse inUse.length e = succEpoch^[n + 1] e ∧ nextFree inUse inUse.length e ∉ inUse ∧
      ∀ m < n, succEpoch^[m + 1] e ∈ inUse := by
  obtain ⟨n, hn, heq, hpassed, hspent⟩ := nextFree_eq_iterate inUse inUse.length e
  refine ⟨n, heq, fun hmem => ?_, hpassed⟩
  obtain rfl := hspent hmem
  rw [heq] at hmem
  have hnodup : ((List.range (inUse.length + 1)).map fun m => succEpoch^[m + 1] e).Nodup :=
    List.nodup_range.map_on fun i hi j hj h => by
      rw [List.mem_range] at hi hj
      have := succEpoch_iterate_injOn he (i := i + 1) (j := j + 1) (by omega) (by omega) h
      omega
  have hsubset : ((List.range (inUse.length + 1)).map fun m => succEpoch^[m + 1] e) ⊆ inUse := by
    intro v hv
    obtain ⟨m, hm, rfl⟩ := List.mem_map.mp hv
    rcases Nat.lt_succ_iff_lt_or_eq.mp (List.mem_range.mp hm) with hlt | rfl
    · exact hpassed m hlt
    · exact hmem
  have hcount := (List.subperm_of_subset hnodup hsubset).length_le
  simp at hcount

theorem pushCheckpoint_nextEpoch (s : State) :
    (pushCheckpoint s).stack.nextEpoch =
      nextFree (epochsInUse (pushCheckpoint s)) (epochsInUse (pushCheckpoint s)).length s.stack.nextEpoch := rfl

theorem pushCheckpoint_checkpoints (s : State) :
    (pushCheckpoint s).stack.checkpoints = s.stack.checkpoints ++ [⟨s.stack.nextEpoch, tail s.journal, 0⟩] := rfl

/-- The values in use are no more than the open checkpoints and the positions of the journal. -/
theorem epochsInUse_length_le (s : State) : (epochsInUse s).length ≤ depth s + occupancy s.journal := by
  unfold epochsInUse liveEpochs
  rw [List.length_append, List.length_map]
  exact Nat.add_le_add_left (List.length_filterMap_le _ _) _

/-- The counter after a MARK of a part within its capacities (R93). -/
theorem pushCheckpoint_nextEpoch_spec {s : State} (hdepth : depth s ≤ 4) (hocc : occupancy s.journal ≤ 1024)
    (he : s.stack.nextEpoch ≠ 0#16) :
    ∃ n, (pushCheckpoint s).stack.nextEpoch = succEpoch^[n + 1] s.stack.nextEpoch ∧
      (pushCheckpoint s).stack.nextEpoch ∉ epochsInUse (pushCheckpoint s) ∧
      ∀ m < n, succEpoch^[m + 1] s.stack.nextEpoch ∈ epochsInUse (pushCheckpoint s) := by
  have hlen := epochsInUse_length_le (pushCheckpoint s)
  have hd : depth (pushCheckpoint s) = depth s + 1 := by simp [depth, pushCheckpoint_checkpoints]
  rw [hd, pushCheckpoint_journal] at hlen
  rw [pushCheckpoint_nextEpoch]
  exact nextFree_spec he (by omega)

/-- Settles O27: `succEpoch` is the statement's successor, and `nextFree` stops at the first free value. -/
theorem nextEpochIsFirstFreeValue : Obligations.NextEpochIsFirstFreeValue := by
  intro s hcapacity he
  obtain ⟨-, -, hocc, -, hdepth, -⟩ := hcapacity
  obtain ⟨n, heq, hfree, hpassed⟩ := pushCheckpoint_nextEpoch_spec hdepth hocc he
  refine ⟨n, heq, hfree, ?_, hpassed⟩
  rw [heq, Function.iterate_succ_apply']
  exact succEpoch_ne_zero _

end Sys2Proof.Machine
end

section
/-!
PROOFS. How the marks of the open checkpoints fit the journal, and what each change of the journal does to that: records are
reserved and freed at the tail with every mark distance following, settled in place, and freed below every mark (R68 to R79,
R91, R96, R105).
-/

namespace Sys2Proof.Machine

/-! ## The newest positions -/

theorem newestSlots_zero (j : Journal) : newestSlots j 0 = [] := by simp [newestSlots]

theorem newestSlots_length {j : Journal} {d : Nat} (hd : d ≤ occupancy j) : (newestSlots j d).length = d := by
  unfold occupancy at hd
  simp only [newestSlots, List.length_drop]
  omega

/-- The newest positions end the ring. -/
theorem ring_eq_append_newestSlots (j : Journal) (d : Nat) :
    j.ring = j.ring.take (j.ring.length - d) ++ newestSlots j d :=
  (List.take_append_drop _ _).symm

theorem newestSlots_of_append {j : Journal} {older newest : List (Option Record)} {d : Nat} (h : j.ring = older ++ newest)
    (hd : newest.length = d) : newestSlots j d = newest := by
  rw [newestSlots, h, List.length_append, hd, Nat.add_sub_cancel, List.drop_left]

/-- Drawing the tail back by `k` takes `k` positions off the newest `d`. -/
theorem newestSlots_take (j : Journal) {k d : Nat} (hk : k ≤ d) (hd : d ≤ occupancy j) :
    newestSlots { j with ring := j.ring.take (j.ring.length - k) } (d - k) = (newestSlots j d).take (d - k) := by
  have hlen := newestSlots_length hd
  unfold occupancy at hd
  have hcut : j.ring.length - k = j.ring.length - d + (d - k) := by omega
  exact newestSlots_of_append (older := j.ring.take (j.ring.length - d)) (by rw [hcut, List.take_add, newestSlots]) (by simp [hlen])

/-- A record at the tail joins the newest positions. -/
theorem newestSlots_append (j : Journal) (slot : Option Record) (d : Nat) :
    newestSlots { j with ring := j.ring ++ [slot] } (d + 1) = newestSlots j d ++ [slot] := by
  simp only [newestSlots, List.length_append, List.length_singleton]
  rw [Nat.add_sub_add_right, List.drop_append_of_le_length (by omega)]

/-- The positions that head advance passes, and those it leaves. -/
theorem ring_eq_append_advanceHead (j : Journal) : j.ring = j.ring.takeWhile Option.isNone ++ (advanceHead j).ring :=
  List.takeWhile_append_dropWhile.symm

/-- Head advance stops before the newest positions when these hold records. -/
theorem newestSlots_advanceHead {j : Journal} {d : Nat} (hd : d ≤ occupancy j) (hlive : ∀ slot ∈ newestSlots j d, slot ≠ none) :
    d ≤ occupancy (advanceHead j) ∧ newestSlots (advanceHead j) d = newestSlots j d := by
  have hlen := newestSlots_length hd
  have hsplit := (ring_eq_append_advanceHead j).symm.trans (ring_eq_append_newestSlots j d)
  obtain ⟨between, hkept⟩ : ∃ between, (advanceHead j).ring = between ++ newestSlots j d := by
    rcases List.append_eq_append_iff.mp hsplit with ⟨between, -, hkept⟩ | ⟨passed, hfreed, hnewest⟩
    · exact ⟨between, hkept⟩
    · have hpassed : passed = [] := List.eq_nil_iff_forall_not_mem.mpr fun slot hslot =>
        hlive slot (hnewest ▸ List.mem_append_left _ hslot)
          (Option.isNone_iff_eq_none.mp (List.mem_takeWhile_imp (hfreed ▸ List.mem_append_right _ hslot)))
      exact ⟨[], by rw [hnewest, hpassed, List.nil_append, List.nil_append]⟩
  refine ⟨?_, newestSlots_of_append hkept hlen⟩
  rw [occupancy, hkept, List.length_append, hlen]
  exact Nat.le_add_left _ _

/-- Head advance leaves the tail where it is (R75). -/
theorem tail_advanceHead (j : Journal) : tail (advanceHead j) = tail j := by
  have hlen := congrArg List.length (ring_eq_append_advanceHead j)
  rw [List.length_append] at hlen
  simp only [tail, hlen, Config.ringSize]
  simp only [advanceHead, Config.ringSize]
  omega

/-! ## Marks that fit a journal -/

/-- The marks of these checkpoints, oldest first, fit the journal (R69, R80, R90, R91, R113). -/
structure MarksFit (j : Journal) (cs : List Checkpoint) : Prop where
  inOrder : cs.Pairwise fun older newer => newer.distance ≤ older.distance
  before : ∀ c ∈ cs, c.mark < 1024 ∧ c.distance ≤ occupancy j ∧ (c.mark + c.distance) % 1024 = tail j
  live : ∀ c ∈ cs, ∀ slot ∈ newestSlots j c.distance, ∃ x, slot = some x ∧ x.state ≠ .reserved true
  ownEpochs : cs.Pairwise fun older newer => ∀ x, some x ∈ newestSlots j newer.distance → x.epoch ≠ older.epoch

theorem marksFit_nil (j : Journal) : MarksFit j [] := ⟨.nil, by simp, by simp, .nil⟩

theorem MarksFit.sublist {j : Journal} {cs cs' : List Checkpoint} (h : MarksFit j cs) (hs : cs'.Sublist cs) : MarksFit j cs' where
  inOrder := h.inOrder.sublist hs
  before c hc := h.before c (hs.subset hc)
  live c hc := h.live c (hs.subset hc)
  ownEpochs := h.ownEpochs.sublist hs

/-- A journal with the same tail, whose newest positions hold what they held or records settled since. -/
theorem MarksFit.of_newest {j j' : Journal} {cs : List Checkpoint} (h : MarksFit j cs) (htail : tail j' = tail j)
    (hnewest : ∀ c ∈ cs, c.distance ≤ occupancy j' ∧
      ∀ slot ∈ newestSlots j' c.distance, slot ∈ newestSlots j c.distance ∨
        ∃ x y, some x ∈ newestSlots j c.distance ∧ slot = some y ∧ y.epoch = x.epoch ∧ y.state ≠ .reserved true) :
    MarksFit j' cs where
  inOrder := h.inOrder
  before c hc := by
    obtain ⟨hmark, -, hdistance⟩ := h.before c hc
    exact ⟨hmark, (hnewest c hc).1, htail ▸ hdistance⟩
  live c hc slot hslot := by
    rcases (hnewest c hc).2 slot hslot with hold | ⟨x, y, -, rfl, -, hstate⟩
    · exact h.live c hc slot hold
    · exact ⟨y, rfl, hstate⟩
  ownEpochs := by
    refine h.ownEpochs.imp_of_mem fun {older newer} _ hc hown y hy => ?_
    rcases (hnewest newer hc).2 _ hy with hold | ⟨x, y', hx, hyy', hepoch, -⟩
    · exact hown y hold
    · obtain rfl := Option.some.inj hyy'
      exact hepoch ▸ hown x hx

theorem MarksFit.congr {j j' : Journal} {cs : List Checkpoint} (h : MarksFit j cs) (hring : j'.ring = j.ring)
    (hhead : j'.head = j.head) : MarksFit j' cs := by
  refine h.of_newest (by simp [tail, hring, hhead]) fun c hc => ?_
  obtain ⟨-, hocc, -⟩ := h.before c hc
  exact ⟨by simpa [occupancy, hring] using hocc, fun slot hslot => .inl (by simpa [newestSlots, hring] using hslot)⟩

/-- The tail drawn back by no more than any mark distance (R76, R91). -/
theorem MarksFit.drawnBack {j : Journal} {cs : List Checkpoint} {k : Nat} (h : MarksFit j cs) (hk : ∀ c ∈ cs, k ≤ c.distance) :
    MarksFit { j with ring := j.ring.take (j.ring.length - k) } (cs.map fun c => { c with distance := c.distance - k }) where
  inOrder := List.pairwise_map.mpr (h.inOrder.imp fun hle => Nat.sub_le_sub_right hle k)
  before := by
    refine List.forall_mem_map.mpr fun c hc => ?_
    obtain ⟨hmark, hocc, hdistance⟩ := h.before c hc
    have := hk c hc
    refine ⟨hmark, ?_, ?_⟩
    · simp only [occupancy, List.length_take] at hocc ⊢
      omega
    · simp only [occupancy, tail, List.length_take, Config.ringSize] at hocc hdistance ⊢
      omega
  live := by
    refine List.forall_mem_map.mpr fun c hc slot hslot => ?_
    obtain ⟨-, hocc, -⟩ := h.before c hc
    rw [newestSlots_take j (hk c hc) hocc] at hslot
    exact h.live c hc slot (List.mem_of_mem_take hslot)
  ownEpochs := by
    refine List.pairwise_map.mpr (h.ownEpochs.imp_of_mem fun {older newer} _ hc hown x hx => ?_)
    obtain ⟨-, hocc, -⟩ := h.before newer hc
    rw [newestSlots_take j (hk newer hc) hocc] at hx
    exact hown x (List.mem_of_mem_take hx)

/-- Each but the last of distinct values differs from the last. -/
theorem pairwise_ne_getLast {α β : Type} {f : α → β} {l : List α} {z : α} (h : (l.map f).Nodup) (hz : l.getLast? = some z) :
    l.Pairwise fun x _ => f x ≠ f z := by
  induction l with
  | nil => exact .nil
  | cons x l ih =>
    rw [List.map_cons, List.nodup_cons] at h
    cases l with
    | nil => exact List.pairwise_singleton _ _
    | cons y l =>
      rw [List.getLast?_cons_cons] at hz
      refine .cons (fun _ _ heq => h.1 ?_) (ih h.2 hz)
      rw [heq]
      exact List.mem_map_of_mem (List.mem_of_getLast? hz)

/-- A record of the newest checkpoint's epoch reserved at the tail, with the distances following (R68, R91). -/
theorem MarksFit.reserved {j : Journal} {cs : List Checkpoint} {last : Checkpoint} {x : Record} (h : MarksFit j cs)
    (hdistinct : (cs.map Checkpoint.epoch).Nodup) (hlast : cs.getLast? = some last) (hepoch : x.epoch = last.epoch)
    (hstate : x.state = .reserved false) :
    MarksFit { j with ring := j.ring ++ [some x] } (cs.map fun c => { c with distance := c.distance + 1 }) where
  inOrder := List.pairwise_map.mpr (h.inOrder.imp fun hle => Nat.add_le_add_right hle 1)
  before := by
    refine List.forall_mem_map.mpr fun c hc => ?_
    obtain ⟨hmark, hocc, hdistance⟩ := h.before c hc
    refine ⟨hmark, ?_, ?_⟩
    · simpa [occupancy] using hocc
    · simp only [tail, List.length_append, List.length_singleton, Config.ringSize] at hdistance ⊢
      omega
  live := by
    refine List.forall_mem_map.mpr fun c hc slot hslot => ?_
    rw [newestSlots_append, List.mem_append, List.mem_singleton] at hslot
    rcases hslot with hslot | rfl
    · exact h.live c hc slot hslot
    · exact ⟨x, rfl, by simp [hstate]⟩
  ownEpochs := by
    refine List.pairwise_map.mpr ((h.ownEpochs.and (pairwise_ne_getLast hdistinct hlast)).imp ?_)
    rintro older newer ⟨hown, hne⟩ y hy
    rw [newestSlots_append, List.mem_append, List.mem_singleton] at hy
    rcases hy with hy | hy
    · exact hown y hy
    · obtain rfl := Option.some.inj hy
      exact fun heq => hne (heq.symm.trans hepoch)

/-- A new checkpoint at the tail (R96). -/
theorem MarksFit.pushed {j : Journal} {cs : List Checkpoint} (h : MarksFit j cs) (epoch : Epoch) :
    MarksFit j (cs ++ [⟨epoch, tail j, 0⟩]) where
  inOrder := List.pairwise_append.mpr ⟨h.inOrder, List.pairwise_singleton _ _, by simp⟩
  before c hc := by
    rcases List.mem_append.mp hc with hc | hc
    · exact h.before c hc
    · obtain rfl := List.mem_singleton.mp hc
      exact ⟨Nat.mod_lt _ (Nat.zero_lt_succ _), Nat.zero_le _, Nat.mod_mod _ _⟩
  live c hc := by
    rcases List.mem_append.mp hc with hc | hc
    · exact h.live c hc
    · obtain rfl := List.mem_singleton.mp hc
      simp [newestSlots_zero]
  ownEpochs := List.pairwise_append.mpr ⟨h.ownEpochs, List.pairwise_singleton _ _, by simp [newestSlots_zero]⟩

theorem tail_set (j : Journal) (k : Nat) (slot : Option Record) : tail { j with ring := j.ring.set k slot } = tail j := by
  simp [tail]

/-- A position written over is the same among the newest, or the written one. -/
theorem mem_newestSlots_set {j : Journal} {k d : Nat} {v slot : Option Record}
    (h : slot ∈ newestSlots { j with ring := j.ring.set k v } d) :
    slot ∈ newestSlots j d ∨ slot = v ∧ ∃ w, j.ring[k]? = some w ∧ w ∈ newestSlots j d := by
  simp only [newestSlots, List.length_set, List.drop_set] at h
  split at h
  · exact .inl h
  · rename_i hge
    by_cases hk : k < j.ring.length
    · rcases List.mem_or_eq_of_mem_set h with hold | rfl
      · exact .inl hold
      · refine .inr ⟨rfl, j.ring[k], List.getElem?_eq_getElem hk, List.mem_drop_iff_getElem.mpr ?_⟩
        exact ⟨k - (j.ring.length - d), by omega, by congr 1; omega⟩
    · rw [List.set_eq_of_length_le (by rw [List.length_drop]; omega)] at h
      exact .inl h

/-- A record settled in place (R70). -/
theorem MarksFit.settled {j : Journal} {cs : List Checkpoint} {k : Nat} {a : MemAnswer} {x y : Record} (h : MarksFit j cs)
    (hk : j.ring[k]? = some (some x)) (hx : settledRecord a x = some y) :
    MarksFit { j with ring := j.ring.set k (some y) } cs := by
  have hy : y.epoch = x.epoch ∧ y.state ≠ .reserved true := by
    unfold settledRecord at hx
    split at hx <;> cases hx <;> simp [*]
  refine h.of_newest (tail_set j k _) fun c hc => ?_
  obtain ⟨-, hocc, -⟩ := h.before c hc
  refine ⟨by simpa [occupancy] using hocc, fun slot hslot => ?_⟩
  rcases mem_newestSlots_set hslot with hold | ⟨rfl, w, hw, hmem⟩
  · exact .inl hold
  · obtain rfl := Option.some.inj (hk.symm.trans hw)
    exact .inr ⟨x, y, hmem, rfl, hy⟩

/-- Head advance over FREED positions, of which none is among the newest (R75). -/
theorem MarksFit.advanced {j : Journal} {cs : List Checkpoint} (h : MarksFit j cs) : MarksFit (advanceHead j) cs := by
  refine h.of_newest (tail_advanceHead j) fun c hc => ?_
  obtain ⟨-, hocc, -⟩ := h.before c hc
  obtain ⟨hle, heq⟩ := newestSlots_advanceHead hocc fun slot hslot => by
    obtain ⟨x, rfl, -⟩ := h.live c hc slot hslot
    simp
  exact ⟨hle, fun slot hslot => .inl (heq ▸ hslot)⟩

/-- The record of an orphan freed: it is not among the newest positions (R71, R80). -/
theorem MarksFit.orphanFreed {j : Journal} {cs : List Checkpoint} {k : Nat} {x : Record} (h : MarksFit j cs)
    (hk : j.ring[k]? = some (some x)) (hx : x.state = .reserved true) :
    MarksFit { j with ring := j.ring.set k none } cs := by
  refine h.of_newest (tail_set j k none) fun c hc => ?_
  obtain ⟨-, hocc, -⟩ := h.before c hc
  refine ⟨by simpa [occupancy] using hocc, fun slot hslot => ?_⟩
  rcases mem_newestSlots_set hslot with hold | ⟨-, w, hw, hmem⟩
  · exact .inl hold
  · obtain rfl := Option.some.inj (hk.symm.trans hw)
    obtain ⟨y, hxy, hstate⟩ := h.live c hc _ hmem
    obtain rfl := Option.some.inj hxy
    exact absurd hx hstate

/-- Records given up of epochs that none of the newest positions has (R79). -/
theorem MarksFit.abandoned {j : Journal} {cs : List Checkpoint} {epochs : List Epoch} (h : MarksFit j cs)
    (hold : ∀ c ∈ cs, ∀ x, some x ∈ newestSlots j c.distance → x.epoch ∉ epochs) :
    MarksFit
      { j with ring := j.ring.map fun slot => slot.bind fun x => if x.epoch ∈ epochs then abandonedRecord x else some x }
      cs := by
  refine h.of_newest (by simp [tail]) fun c hc => ?_
  obtain ⟨-, hocc, -⟩ := h.before c hc
  refine ⟨by simpa [occupancy] using hocc, fun slot hslot => .inl ?_⟩
  simp only [newestSlots, List.length_map, ← List.map_drop] at hslot
  obtain ⟨old, hmem, rfl⟩ := List.mem_map.mp hslot
  obtain ⟨x, rfl, -⟩ := h.live c hc old hmem
  rwa [Option.bind_some, if_neg (hold c hc x hmem)]

end Sys2Proof.Machine
end

section
/-!
PROOFS. Every effect keeps the stack, the journal and the restore engine in agreement (R69, R80, R90, R91, R93, R105, R113,
R118, R119).
-/

namespace Sys2Proof.Machine

/-- The agreement of the statement, but for the capacities, block by block. -/
structure MarksAgree (s : State) : Prop where
  empty : emptyUnlessReady s
  epochs : epochsDistinct s
  fit : MarksFit s.journal s.stack.checkpoints
  target : s.engine.state ≠ .idle → s.stack.checkpoints ≠ []
  entry : ∀ e, s.tracker.restore = some e →
    s.engine.state = .restore ∧ (∀ c ∈ s.stack.checkpoints, 1 ≤ c.distance) ∧
      ∃ r, s.journal.ring.getLast? = some (some r) ∧ r.state = .valid e.preImage ∧ r.line = e.line

theorem marksConsistent_iff (s : State) : marksConsistent s ↔ withinCapacity s ∧ MarksAgree s := by
  constructor
  · rintro ⟨hcapacity, hempty, hepochs, ⟨horder, hbefore⟩, ⟨hlive, hown⟩, htarget, hentry⟩
    exact ⟨hcapacity, hempty, hepochs, ⟨horder, hbefore, hlive, hown⟩, htarget, hentry⟩
  · rintro ⟨hcapacity, hempty, hepochs, ⟨horder, hbefore, hlive, hown⟩, htarget, hentry⟩
    exact ⟨hcapacity, hempty, hepochs, ⟨horder, hbefore⟩, ⟨hlive, hown⟩, htarget, hentry⟩

namespace MarksAgree

/-! ## Parts with the same journal and stack -/

theorem congr {s t : State} (h : MarksAgree s) (hjournal : t.journal = s.journal) (hstack : t.stack = s.stack)
    (hengine : t.engine.state = s.engine.state) (hrestore : t.tracker.restore = s.tracker.restore) : MarksAgree t where
  empty := by simpa only [emptyUnlessReady, hjournal, hstack] using h.empty
  epochs := by simpa only [epochsDistinct, hstack] using h.epochs
  fit := by simpa only [hjournal, hstack] using h.fit
  target := by simpa only [hengine, hstack] using h.target
  entry := by simpa only [hjournal, hstack, hengine, hrestore] using h.entry

/-- A part whose restore entry is free, its engine free to be in any state with a target open. -/
theorem withoutEntry {s t : State} (h : MarksAgree s) (hjournal : t.journal = s.journal) (hstack : t.stack = s.stack)
    (htarget : t.engine.state ≠ .idle → s.stack.checkpoints ≠ []) (hrestore : t.tracker.restore = none) : MarksAgree t where
  empty := by simpa only [emptyUnlessReady, hjournal, hstack] using h.empty
  epochs := by simpa only [epochsDistinct, hstack] using h.epochs
  fit := by simpa only [hjournal, hstack] using h.fit
  target := by simpa only [hstack] using htarget
  entry e he := by rw [hrestore] at he; cases he

/-- A part that holds nothing. -/
theorem of_empty {t : State} (hring : t.journal.ring = []) (hhead : t.journal.head = 0) (hstack : t.stack = ⟨[], 1#16⟩)
    (hengine : t.engine.state = .idle) (hrestore : t.tracker.restore = none) : MarksAgree t where
  empty _ := ⟨hring, hhead, by rw [hstack]⟩
  epochs := by simp [epochsDistinct, hstack]
  fit := by simpa [hstack] using marksFit_nil _
  target h := absurd hengine h
  entry e he := by rw [hrestore] at he; cases he

theorem entry_none {s : State} (h : MarksAgree s) (hengine : s.engine.state ≠ .restore) : s.tracker.restore = none := by
  cases he : s.tracker.restore with
  | none => rfl
  | some e => exact absurd (h.entry e he).1 hengine

/-- With a checkpoint open the journal is READY (R85, R86). -/
theorem ready {s : State} (h : MarksAgree s) (hopen : s.stack.checkpoints ≠ []) : s.journal.readiness = .ready := by
  by_contra hready
  obtain ⟨-, -, hnone⟩ := h.empty hready
  exact hopen hnone

end MarksAgree

/-- Distances kept in step keep the epochs as they are. -/
theorem epochsDistinct_of_distances {s t : State} (h : epochsDistinct s)
    (hepochs : t.stack.checkpoints.map Checkpoint.epoch = s.stack.checkpoints.map Checkpoint.epoch)
    (hnext : t.stack.nextEpoch = s.stack.nextEpoch) : epochsDistinct t := by
  simpa only [epochsDistinct, hepochs, hnext] using h

theorem epochsDistinct_of_sublist {s t : State} (h : epochsDistinct s)
    (hsub : t.stack.checkpoints.Sublist s.stack.checkpoints) (hnext : t.stack.nextEpoch = s.stack.nextEpoch) :
    epochsDistinct t := by
  obtain ⟨hnodup, hzero, hne, hfresh⟩ := h
  have hmap := hsub.map Checkpoint.epoch
  exact ⟨hnodup.sublist hmap, fun hm => hzero (hmap.subset hm), hnext ▸ hne, fun hm => hfresh (hnext ▸ hmap.subset hm)⟩

/-! ## The restore engine -/

/-- The newest checkpoint has the least distance (R91). -/
theorem MarksFit.getLast_le {j : Journal} {cs : List Checkpoint} {target : Checkpoint} (h : MarksFit j cs)
    (ht : cs.getLast? = some target) {c : Checkpoint} (hc : c ∈ cs) : target.distance ≤ c.distance := by
  obtain ⟨init, rfl⟩ := List.getLast?_eq_some_iff.mp ht
  obtain ⟨-, -, hle⟩ := List.pairwise_append.mp h.inOrder
  rcases List.mem_append.mp hc with hc | hc
  · exact hle c hc target List.mem_cons_self
  · obtain rfl := List.mem_singleton.mp hc
    exact le_rfl

/-- The tail drawn back by no more than any distance, with the restore entry free (R76). -/
theorem MarksAgree.freeAtTail {s : State} (h : MarksAgree s) {k : Nat} (hk : ∀ c ∈ s.stack.checkpoints, k ≤ c.distance)
    (hnone : s.tracker.restore = none) : MarksAgree (freeAtTail k s) := by
  rw [freeAtTail_eq]
  exact {
    empty := fun hready => by
      obtain ⟨hring, hhead, hnone⟩ := h.empty hready
      simp [Machine.drawnBack, hring, hhead, hnone]
    epochs := epochsDistinct_of_distances h.epochs (by simp [Machine.drawnBack]) rfl
    fit := h.fit.drawnBack hk
    target := fun hbusy => by simpa [Machine.drawnBack] using h.target hbusy
    entry := fun e he => by simp [Machine.drawnBack, hnone] at he }

/-- The hand-out of a RESTORE: the record before the tail is VALID, or nothing is handed out (R119). -/
theorem handRestore_cases (s : State) :
    handRestore s = s ∨ ∃ r pre e, s.journal.ring.getLast? = some (some r) ∧ r.state = .valid pre ∧ e.line = r.line ∧
      e.preImage = pre ∧ handRestore s = { s with tracker := { s.tracker with restore := some e } } := by
  unfold handRestore
  split
  · rename_i r hlast
    split
    · rename_i pre hpre
      exact .inr ⟨r, pre, _, hlast, hpre, rfl, rfl, rfl⟩
    · exact .inl rfl
    · exact .inl rfl
  · exact .inl rfl
  · exact .inl rfl

theorem MarksAgree.handRestore {s : State} (h : MarksAgree s) (hstate : s.engine.state = .restore)
    (hdistance : ∀ c ∈ s.stack.checkpoints, 1 ≤ c.distance) : MarksAgree (handRestore s) := by
  rcases handRestore_cases s with he | ⟨r, pre, e, hlast, hpre, hline, hpreImage, he⟩ <;> rw [he]
  · exact h
  · exact ⟨h.empty, h.epochs, h.fit, h.target, fun e' he' => by
      obtain rfl := Option.some.inj he'
      exact ⟨hstate, hdistance, r, hlast, hpreImage ▸ hpre, hline.symm⟩⟩

theorem MarksAgree.continueRestore {s : State} (h : MarksAgree s) (hstate : s.engine.state = .restore)
    (hnone : s.tracker.restore = none) : MarksAgree (continueRestore s) := by
  rcases continueRestore_cases s with ⟨he, -⟩ | ⟨target, ht, ⟨-, he⟩ | ⟨hlt, he⟩⟩ <;> rw [he]
  · exact h
  · refine (h.freeAtTail (fun c hc => h.fit.getLast_le ht hc) hnone).withoutEntry (by simp) (by simp) ?_ (by simpa using hnone)
    simp [completeRestore_eq, completes]
  · have hle : ∀ c ∈ s.stack.checkpoints, voidRun s.journal.ring target.distance < c.distance := fun c hc =>
      hlt.trans_le (h.fit.getLast_le ht hc)
    refine (h.freeAtTail (fun c hc => (hle c hc).le) hnone).handRestore (by simpa using hstate) ?_
    rw [freeAtTail_eq]
    exact List.forall_mem_map.mpr fun c hc => Nat.sub_pos_of_lt (hle c hc)

theorem MarksAgree.drainTest {s : State} (h : MarksAgree s) : MarksAgree (drainTest s) := by
  rcases drainTest_cases s with ⟨he, -⟩ | ⟨hdrain, -, -, he⟩ <;> rw [he]
  · exact h
  · have hnone := h.entry_none (by simp [hdrain])
    have hentered : MarksAgree { s with engine := { s.engine with state := .restore } } :=
      h.withoutEntry rfl rfl (fun _ => h.target (by simp [hdrain])) hnone
    exact hentered.continueRestore rfl hnone

theorem MarksAgree.acceptRollback {s : State} {k : Nat} {target : Checkpoint} (h : MarksAgree s)
    (hk : s.stack.checkpoints[k]? = some target) (hengine : s.engine.state ≠ .restore) : MarksAgree (acceptRollback k s) := by
  rw [acceptRollback_eq hk]
  have hopen : s.stack.checkpoints ≠ [] := fun hnil => by simp [hnil] at hk
  refine MarksAgree.drainTest ?_
  exact {
    empty := fun hready => absurd (h.ready hopen) hready
    epochs := epochsDistinct_of_sublist h.epochs (List.take_sublist _ _) rfl
    fit := h.fit.sublist (List.take_sublist _ _)
    target := fun _ => by simpa [rollbackEntered] using hopen
    entry := fun e he => by
      have hnone := h.entry_none hengine
      simp [rollbackEntered, hnone] at he }

theorem MarksAgree.restoreAnswered {s : State} {e : RestoreEntry} (h : MarksAgree s) (he : s.tracker.restore = some e)
    (a : MemAnswer) : MarksAgree (restoreAnswered e a { s with tracker := { s.tracker with restore := none } }) := by
  obtain ⟨hstate, hdistance, -⟩ := h.entry e he
  have hopen : s.stack.checkpoints ≠ [] := h.target (by simp [hstate])
  have hretry : MarksAgree
      { s with tracker := { s.tracker with restore := none }, engine := { s.engine with retry := false } } :=
    h.withoutEntry rfl rfl (fun _ => hopen) rfl
  have hfreed := hretry.freeAtTail (k := 1) hdistance rfl
  rcases restoreAnswered_cases e a { s with tracker := { s.tracker with restore := none } } with
    ⟨-, hs⟩ | ⟨-, hs⟩ | ⟨-, hs⟩ | ⟨-, hs⟩ | ⟨-, hs⟩ <;> rw [hs]
  · exact hfreed
  · exact hfreed.continueRestore (by simpa using hstate) (by simp)
  · exact hretry
  · exact h.withoutEntry (by simp) (by simp) (fun _ => hopen) (by simp)
  · refine ⟨h.empty, h.epochs, h.fit, h.target, fun e' he' => ?_⟩
    obtain rfl := Option.some.inj he'
    exact h.entry e he

/-! ## Records settled -/

theorem getLast?_set_of_ne {α : Type} {l : List α} {k : Nat} {v w x : α} (hlast : l.getLast? = some w) (hk : l[k]? = some x)
    (hne : x ≠ w) : (l.set k v).getLast? = some w := by
  rw [List.getLast?_eq_getElem?] at hlast ⊢
  rw [List.length_set, List.getElem?_set_ne, hlast]
  rintro rfl
  exact hne (Option.some.inj (hk.symm.trans hlast))

/-- Head advance leaves a record that stands before the tail there. -/
theorem getLast?_advanceHead {j : Journal} {r : Record} (h : j.ring.getLast? = some (some r)) :
    (advanceHead j).ring.getLast? = some (some r) := by
  rw [ring_eq_append_advanceHead j, List.getLast?_append] at h
  cases hkept : (advanceHead j).ring.getLast? with
  | some slot => simpa [hkept] using h
  | none =>
    rw [hkept, Option.none_or] at h
    have := List.mem_takeWhile_imp (List.mem_of_getLast? h)
    simp at this

/-- The record before the tail is VALID while the restore entry is in use, so the settling of another leaves it (R119). -/
theorem MarksAgree.settleRecord {s : State} (h : MarksAgree s) (position : Nat) (a : MemAnswer) :
    MarksAgree (settleRecord position a s) := by
  rcases settleRecord_journal position a s with hj | ⟨k, x, hk, hcases⟩
  · exact h.congr hj (by simp) (by simp) (by simp)
  have hring : s.journal.ring ≠ [] := fun hnil => by simp [hnil] at hk
  have hready : s.journal.readiness = .ready := by
    by_contra hready
    obtain ⟨hnil, -, -⟩ := h.empty hready
    exact hring hnil
  have hfit : MarksFit (Machine.settleRecord position a s).journal s.stack.checkpoints := by
    rcases hcases with ⟨y, hy, hj⟩ | ⟨horphan, hj⟩ <;> rw [hj]
    · exact h.fit.settled hk hy
    · exact (h.fit.orphanFreed hk horphan).advanced
  have hlast : ∀ r pre, s.journal.ring.getLast? = some (some r) → r.state = .valid pre →
      (Machine.settleRecord position a s).journal.ring.getLast? = some (some r) := by
    intro r pre hr hpre
    rcases hcases with ⟨y, hy, hj⟩ | ⟨horphan, hj⟩ <;> rw [hj]
    · by_cases hxr : x = r
      · subst hxr
        obtain rfl : x = y := by simpa [settledRecord, hpre] using hy
        obtain ⟨hlt, hget⟩ := List.getElem?_eq_some_iff.mp hk
        have hset : s.journal.ring.set k (some x) = s.journal.ring := by rw [← hget, List.set_getElem_self]
        simpa only [hset] using hr
      · exact getLast?_set_of_ne hr hk (by simpa using hxr)
    · refine getLast?_advanceHead (getLast?_set_of_ne hr hk ?_)
      rintro ⟨⟩
      simp [hpre] at horphan
  exact {
    empty := fun hnot => absurd ((settleRecord_readiness position a s).trans hready) hnot
    epochs := epochsDistinct_of_distances h.epochs (by simp) (by simp)
    fit := by simpa using hfit
    target := by simpa using h.target
    entry := fun e he => by
      obtain ⟨hstate, hdistance, r, hr, hpre, hline⟩ := h.entry e (by simpa using he)
      exact ⟨by simpa using hstate, by simpa using hdistance, r, hlast r _ hr hpre, hpre, hline⟩ }

theorem MarksAgree.settleEntryRecord {s : State} (h : MarksAgree s) (e : HostEntry) (a : MemAnswer) :
    MarksAgree (settleEntryRecord e a s) := by
  unfold Machine.settleEntryRecord
  split
  · exact h.settleRecord _ a
  · exact h
  · exact h

theorem MarksAgree.hostAnswered {s : State} (h : MarksAgree s) (e : HostEntry) (a : MemAnswer) :
    MarksAgree (hostAnswered e a s) := by
  have hmoved : ∀ phase op n, MarksAgree (entryMoved e phase op n s) := fun phase op n =>
    h.congr rfl rfl rfl rfl
  rcases hostAnswered_cases e a s with ⟨-, he⟩ | ⟨phase, op, n, ⟨-, he⟩ | ⟨-, he⟩⟩ <;> rw [he]
  · exact h
  · exact hmoved phase op n
  · exact ((hmoved phase op n).settleEntryRecord e a).drainTest

/-! ## Records given up -/

/-- The removal of checkpoints whose epochs no record at or after a mark that stays has (R79). -/
theorem MarksAgree.abandoned {s : State} (h : MarksAgree s) {cs : List Checkpoint} {epochs : List Epoch}
    (hsub : cs.Sublist s.stack.checkpoints) (hready : s.journal.readiness = .ready) (hengine : s.engine.state ≠ .restore)
    (hold : ∀ c ∈ cs, ∀ x, some x ∈ newestSlots s.journal c.distance → x.epoch ∉ epochs)
    (hopen : s.engine.state ≠ .idle → cs ≠ []) :
    MarksAgree (abandonEpochs epochs { s with stack := { s.stack with checkpoints := cs } }) where
  empty hnot := absurd (by simpa using hready) hnot
  epochs := epochsDistinct_of_sublist h.epochs (by simpa using hsub) (by simp)
  fit := by
    rw [abandonEpochs, signalFall_journal, signalFall_stack]
    exact ((h.fit.sublist hsub).abandoned hold).advanced
  target := by simpa using hopen
  entry e he := by simp [h.entry_none hengine] at he

/-- RELEASE gives up the epochs of the oldest checkpoints, of which the marks that stay have none after them (R100). -/
theorem MarksAgree.acceptRelease {s : State} (h : MarksAgree s) (n : Nat) (hready : s.journal.readiness = .ready)
    (hidle : s.engine.state = .idle) : MarksAgree (acceptRelease n s) := by
  have hold : ∀ c ∈ s.stack.checkpoints.drop n, ∀ x, some x ∈ newestSlots s.journal c.distance →
      x.epoch ∉ (s.stack.checkpoints.take n).map Checkpoint.epoch := by
    intro c hc x hx hmem
    obtain ⟨older, holder, hepoch⟩ := List.mem_map.mp hmem
    have hown := h.fit.ownEpochs
    rw [← List.take_append_drop n s.stack.checkpoints] at hown
    obtain ⟨-, -, hcross⟩ := List.pairwise_append.mp hown
    exact hcross older holder c hc x hx hepoch.symm
  refine (h.abandoned (List.drop_sublist n _) hready (by simp [hidle]) hold (absurd hidle)).congr ?_ ?_ ?_ ?_ <;>
    simp [Machine.acceptRelease]

/-- DISCARD closes every checkpoint and makes the engine IDLE (R103, R104). -/
theorem MarksAgree.acceptDiscard {s : State} (h : MarksAgree s) (hready : s.journal.readiness = .ready)
    (hengine : s.engine.state ≠ .restore) : MarksAgree (acceptDiscard s) := by
  have hidle : MarksAgree { s with engine := { s.engine with state := .idle } } :=
    h.withoutEntry rfl rfl (absurd rfl) (h.entry_none hengine)
  have habandoned := hidle.abandoned (cs := []) (epochs := discardedEpochs s) (List.nil_sublist _) hready (by simp) (by simp)
    (absurd rfl)
  refine habandoned.congr ?_ ?_ ?_ ?_ <;> simp [Machine.acceptDiscard, abandonEpochs]

/-! ## Records reserved, and checkpoints opened -/

/-- A JWRITE's reservation, which comes with the engine IDLE and a checkpoint open (R43, R48, R68). -/
theorem MarksAgree.reserveRecord {s : State} (h : MarksAgree s) (r : Request) (i : RegionIndex)
    (hidle : s.engine.state = .idle) (hdepth : 1 ≤ depth s) : MarksAgree (reserveRecord r i s) := by
  obtain ⟨last, hlast⟩ : ∃ last, s.stack.checkpoints.getLast? = some last := by
    cases hcs : s.stack.checkpoints with
    | nil => simp [depth, hcs] at hdepth
    | cons c cs => exact ⟨_, List.getLast?_eq_getLast_of_ne_nil (List.cons_ne_nil c cs)⟩
  have hopen : s.stack.checkpoints ≠ [] := fun hnil => by simp [hnil] at hlast
  have hepoch : (newRecord s r i).epoch = last.epoch := by simp [newRecord, currentEpoch, hlast]
  obtain ⟨hnodup, -, -, -⟩ := h.epochs
  rw [reserveRecord_eq]
  exact {
    empty := fun hnot => absurd (h.ready hopen) hnot
    epochs := epochsDistinct_of_distances h.epochs (by simp [withReservation]) rfl
    fit := h.fit.reserved hnodup hlast hepoch rfl
    target := fun hbusy => absurd hidle hbusy
    entry := fun e he => by
      have hnone := h.entry_none (by simp [hidle])
      simp [withReservation, hnone] at he }

theorem MarksAgree.dispatch {s : State} {r : Request} {earlier : List WaitEntry} {id : HostId} {region : Option RegionIndex}
    {journaled : Bool} (h : MarksAgree s) (hv : examine s r earlier = .dispatch id region journaled) :
    MarksAgree (dispatch id region journaled r s) := by
  rcases dispatch_cases hv s with he | ⟨i, kind, rfl, he, hidle, -, hdepth, -⟩ <;> rw [he]
  · exact h.congr rfl rfl rfl rfl
  · exact (h.reserveRecord r i hidle hdepth).congr rfl rfl rfl rfl

theorem MarksAgree.examineSubject {s : State} {subject : Subject} (h : MarksAgree s)
    (hn : nextSubject s = some subject) : MarksAgree (examineSubject subject s) := by
  rcases examineSubject_cases hn with ⟨k, e, -, -, v, hv, he⟩ | ⟨r, rest, -, v, hv, he⟩ <;> rw [he]
  · cases v with
    | dispatch id region journaled =>
      refine (h.dispatch hv.symm).congr ?_ ?_ ?_ ?_ <;> simp [applyToWaiting]
    | park reason region => refine h.congr ?_ ?_ ?_ ?_ <;> simp [applyToWaiting]
    | refuse reason region => refine h.congr ?_ ?_ ?_ ?_ <;> simp [applyToWaiting]
  · cases v with
    | dispatch id region journaled => exact (h.dispatch hv.symm).congr rfl rfl rfl rfl
    | park reason region =>
      have hnoted : MarksAgree (noteFull (.park reason region) s) := h.congr (by simp) (by simp) (by simp) (by simp)
      simp only [applyToHead]
      split <;> exact hnoted.congr rfl rfl rfl rfl
    | refuse reason region =>
      have hnoted : MarksAgree (noteFull (.refuse reason region) s) := h.congr (by simp) (by simp) (by simp) (by simp)
      exact hnoted.congr rfl rfl rfl rfl

/-- The counter's value becomes the epoch of the new checkpoint, and the counter is free again (R93, R96). -/
theorem epochsDistinct_pushCheckpoint {s : State} (h : epochsDistinct s) (hdepth : depth s ≤ 4)
    (hocc : occupancy s.journal ≤ 1024) : epochsDistinct (pushCheckpoint s) := by
  obtain ⟨hnodup, hzero, hne, hfresh⟩ := h
  obtain ⟨n, heq, hfree, -⟩ := pushCheckpoint_nextEpoch_spec hdepth hocc hne
  have hopen : (pushCheckpoint s).stack.checkpoints.map Checkpoint.epoch =
      s.stack.checkpoints.map Checkpoint.epoch ++ [s.stack.nextEpoch] := by
    rw [pushCheckpoint_checkpoints, List.map_append, List.map_singleton]
  refine ⟨?_, ?_, ?_, fun hm => hfree (List.mem_append_left _ hm)⟩
  · rw [hopen, ← List.concat_eq_append]
    exact hnodup.concat hfresh
  · rw [hopen, List.mem_append, List.mem_singleton]
    rintro (hm | hm)
    · exact hzero hm
    · exact hne hm.symm
  · rw [heq, Function.iterate_succ_apply']
    exact succEpoch_ne_zero _

theorem MarksAgree.pushCheckpoint {s : State} (h : MarksAgree s) (hcapacity : withinCapacity s)
    (hready : s.journal.readiness = .ready) (hidle : s.engine.state = .idle) : MarksAgree (pushCheckpoint s) := by
  obtain ⟨-, -, hocc, -, hdepth, -⟩ := hcapacity
  exact {
    empty := fun hnot => absurd hready hnot
    epochs := epochsDistinct_pushCheckpoint h.epochs hdepth hocc
    fit := h.fit.pushed s.stack.nextEpoch
    target := fun hbusy => absurd hidle hbusy
    entry := fun e he => by
      have hnone := h.entry_none (by simp [hidle])
      rw [pushCheckpoint_tracker, hnone] at he
      cases he }

/-! ## Every effect -/

theorem marksAgree_softResetValues (toggle : Bool) (s : State) : MarksAgree (softResetValues toggle s) :=
  .of_empty rfl rfl rfl rfl rfl

theorem MarksAgree.settleQuiesce {s : State} (h : MarksAgree s) : MarksAgree (settleQuiesce s) :=
  settleQuiesce_keeps h fun toggle => marksAgree_softResetValues toggle s

theorem MarksAgree.offerNext {s : State} (h : MarksAgree s) : MarksAgree (offerNext s) :=
  h.congr (by simp) (by simp) (by simp) (by simp)

theorem Execution.marksAgree {c : Instr} {s u : State} (he : Execution c s u) (h : MarksAgree s)
    (hcapacity : withinCapacity s) : MarksAgree u := by
  cases he with
  | mark f hready hidle _ =>
    exact (h.pushCheckpoint hcapacity hready hidle).congr (by simp) (by simp [acceptMark]) (by simp [acceptMark]) (by simp)
  | release f n hready hidle _ => exact h.acceptRelease n hready hidle
  | rollback f k target _ hfree hk =>
    exact h.acceptRollback hk (by rcases hfree with hf | hf <;> simp [hf])
  | discard f hready hfree => exact h.acceptDiscard hready (by rcases hfree with hf | hf <;> simp [hf])
  | _ => exact h.congr (by simp) (by simp) (by simp) (by simp)

theorem MarksAgree.afterTaking {s : State} (hs : MarksAgree s) (h : Holder) (r : Request) (a : Ready) :
    MarksAgree (afterTaking h r a s) := by
  have hcaptured : MarksAgree
      (captureResponse (currentEpoch s) r a { s with hport := { s.hport with offered := none } }) :=
    hs.congr (by simp) (by simp) (by simp) (by simp)
  have hgone : MarksAgree
      (giveUp h r (captureResponse (currentEpoch s) r a { s with hport := { s.hport with offered := none } })) := by
    cases h with
    | taking | intakeHead => exact hcaptured.congr rfl rfl rfl rfl
    | waiting p => exact hcaptured.congr (by simp [giveUp]) (by simp [giveUp]) (by simp [giveUp]) (by simp [giveUp])
    | host id =>
      refine (MarksAgree.drainTest ?_).congr rfl rfl rfl rfl
      exact hcaptured.congr (by simp) (by simp) (by simp) (by simp)
  exact hgone.congr (by simp [Machine.afterTaking]) (by simp [Machine.afterTaking]) (by simp [Machine.afterTaking])
    (by simp [Machine.afterTaking])

/-- An accepted operation marks its entry; the restore entry keeps its line and pre-image (R13). -/
theorem MarksAgree.operationAccepted {s : State} (h : MarksAgree s) (op : Operation) :
    MarksAgree { s with mport := { s.mport with presented := none }, tracker := markOutstanding op.entry s.tracker } := by
  unfold markOutstanding
  split
  · exact h.congr rfl rfl rfl rfl
  · refine ⟨h.empty, h.epochs, h.fit, h.target, fun e he => ?_⟩
    obtain ⟨e', he', rfl⟩ := Option.map_eq_some_iff.mp he
    exact h.entry e' he'

theorem MarksAgree.takeRequest {s : State} (h : MarksAgree s) (r : Request) : MarksAgree (takeRequest r s) := by
  unfold Machine.takeRequest
  split
  · exact MarksAgree.offerNext (h.congr rfl rfl rfl rfl)
  · exact h.congr rfl rfl rfl rfl

/-- READY comes with the journal empty, and no checkpoint was open before it (R85, R86). -/
theorem MarksAgree.journalReady {s : State} (h : MarksAgree s) (hd : initialisationDue s = true) :
    MarksAgree (setFlag .ready { s with journal := { readiness := .ready, head := 0, ring := [] } }) := by
  have hnone : s.stack.checkpoints = [] := by
    by_contra hopen
    simp [initialisationDue, h.ready hopen] at hd
  have hidle : s.engine.state = .idle := by
    by_contra hbusy
    exact h.target hbusy hnone
  exact {
    empty := fun hnot => absurd rfl hnot
    epochs := h.epochs
    fit := by simpa [hnone] using marksFit_nil _
    target := fun hbusy => absurd hidle hbusy
    entry := fun e he => by
      have hfree := h.entry_none (by simp [hidle])
      rw [setFlag_tracker, hfree] at he
      cases he }

/-- The quiesce of a soft reset begins: a journal that was initialising is NOT READY, and nothing else here changes (R86). -/
theorem MarksAgree.beginSoftReset {s : State} (h : MarksAgree s) (toggle : Bool) : MarksAgree (beginSoftReset toggle s) := by
  refine MarksAgree.settleQuiesce (MarksAgree.offerNext ⟨fun hnot => ?_, h.epochs, h.fit.congr rfl rfl, h.target, h.entry⟩)
  refine h.empty fun hready => hnot ?_
  simp [hready, abandonInitialisation]

theorem Effect.marksAgree {c : Instr} {s t : State} (he : Effect c s t) (h : MarksAgree s) (hcapacity : withinCapacity s) :
    MarksAgree t := by
  cases he with
  | nothing => exact h
  | link | issueGrant | quietIntervalEnd | firstExpiry => exact h.congr rfl rfl rfl rfl
  | executed f status payload _ _ hu => exact (hu.marksAgree h hcapacity).congr rfl rfl rfl rfl
  | softReset f _ => exact h.beginSoftReset f.toggle
  | softResetStep4 _ => exact h.settleQuiesce
  | takeRequest r _ => exact h.takeRequest r
  | responseTaken holder r a _ _ _ => exact (h.afterTaking holder r a).offerNext.settleQuiesce
  | examination subject hn => exact (h.examineSubject hn).offerNext
  | waitExpiry place _ => exact MarksAgree.offerNext (h.congr (by simp) (by simp) (by simp) (by simp))
  | operationAccepted op _ => exact h.operationAccepted op
  | hostAnswer identity a id e _ _ => exact (h.hostAnswered e a).offerNext.settleQuiesce
  | restoreAnswer identity a e _ hr _ => exact (h.restoreAnswered hr a).settleQuiesce
  | pornAssert | pornRelease => exact .of_empty rfl rfl rfl rfl rfl
  | journalReady hd => exact h.journalReady hd
  | secondExpiry k target _ hd hk =>
    refine MarksAgree.acceptRollback (s := setFlag .dlroll s) (h.congr rfl rfl rfl rfl) hk ?_
    intro hrestore
    simp_all [secondExpiryDue]

theorem Effect.withinCapacity {c : Instr} {s t : State} (he : Effect c s t) (h : withinCapacity s) : withinCapacity t := by
  obtain ⟨hbounded, hjournal⟩ := (withinCapacity_iff s).mp h
  exact (withinCapacity_iff t).mpr ⟨he.bounded hbounded, he.path.keeps (fun _ _ => JournalStep.journalBounded) hjournal⟩

/-- Settles O12: every effect keeps the agreement, with the capacities that the epochs lean on. -/
theorem stepKeepsMarksConsistent : Obligations.StepKeepsMarksConsistent := by
  intro s t h hstep
  refine (marksConsistent_iff t).mpr (step_keeps (P := fun s => withinCapacity s ∧ MarksAgree s) ?_ ?_ ?_
    ((marksConsistent_iff s).mp h) hstep)
  · rintro s p ⟨hcapacity, hagree⟩
    exact ⟨hcapacity, hagree.congr rfl rfl rfl rfl⟩
  · rintro c s t ⟨hcapacity, hagree⟩ he
    exact ⟨he.withinCapacity hcapacity, he.marksAgree hagree hcapacity⟩
  · rintro s ⟨hcapacity, hagree⟩ _
    exact ⟨hcapacity, hagree.congr rfl rfl rfl rfl⟩

end Sys2Proof.Machine
end

section
/-!
PROOFS. The drain test (R115) and two host entries of one identity. `drainTested` does not say that identities are distinct
(R60). Where two entries share one, the answer to the first is written over both; when only the second held the engine in
DRAIN, the drain condition comes true in an event that makes no drain test, because the entry was in phase MEM. The custody
invariant (O10) keeps such states from being reached.
-/

namespace Sys2Proof.Machine

/-- A read of the first word of a line, by initiator 0. -/
def readOf (tag : Tag) (line : LineAddr) : Request :=
  { kind := .read, initiator := 0, tag := tag, address := line ++ (0#3), count := 1, mask := 0, data := Vector.replicate 8 0#32 }

/-- A part in DRAIN over a span with a VOID record of line 0x10. Of two host entries of identity 0, both in phase MEM, one is
for that line; the other is for line 0x20, has its operation outstanding, and is about to get its answer. -/
def sharedIdentity : State :=
  { State.reset with
    mport := { presented := none, quietSince := none }
    tracker :=
      { hosts := [⟨0, .read, .mem, .outstanding, readOf 0 0x20, none⟩, ⟨0, .read, .mem, .toIssue, readOf 1 0x10, none⟩]
        restore := none }
    journal := { readiness := .ready, head := 0, ring := [some ⟨.void, 1, 0x10, 0, 0⟩] }
    stack := { checkpoints := [⟨1, 0, 1⟩], nextEpoch := 2 }
    engine := { state := .drain, span := some ⟨0, 1⟩, retry := false, stopping := false, lostrb := false }
    pending := [.answer 0 .error] }

/-- The second entry holds the engine in DRAIN. -/
theorem sharedIdentity_drainTested : drainTested sharedIdentity :=
  ⟨fun h => absurd rfl h, fun h => absurd rfl h, fun _ _ => by decide⟩

/-- Refutes O15: the answer to the entry for line 0x20 is written over the entry for line 0x10 of the same identity, which
leaves the engine in DRAIN with its drain condition true. -/
theorem not_stepTestsTheDrain : ¬ Obligations.StepTestsTheDrain := by
  intro h
  obtain ⟨-, -, hdrain⟩ := h sharedIdentity _ sharedIdentity_drainTested rfl
  exact absurd (hdrain rfl rfl) (by decide)

end Sys2Proof.Machine
end

section
/-!
PROOFS. What no command can change: the frame statements about parameters, region tables, the capture record, the link and
LOSTRB, each read off the list of effects (R28, R33, R131, R153, R168, R187, R190).
-/

namespace Sys2Proof.Machine

/-! ## What the taking of a response leaves -/

@[simp] theorem afterTaking_link (h : Holder) (r : Request) (a : Ready) (s : State) : (afterTaking h r a s).link = s.link := by
  cases h <;> simp [afterTaking, giveUp]

@[simp] theorem afterTaking_params (h : Holder) (r : Request) (a : Ready) (s : State) :
    (afterTaking h r a s).params = s.params := by
  cases h <;> simp [afterTaking, giveUp]

@[simp] theorem afterTaking_regions (h : Holder) (r : Request) (a : Ready) (s : State) :
    (afterTaking h r a s).regions = s.regions := by
  cases h <;> simp [afterTaking, giveUp]

/-- A holder that gives up its request has no part in the capture record. -/
theorem afterTaking_capture (h : Holder) (r : Request) (a : Ready) (s : State) :
    (afterTaking h r a s).events.capture = (captureResponse (currentEpoch s) r a s).events.capture := by
  have hcaptured : (captureResponse (currentEpoch s) r a { s with hport := { s.hport with offered := none } }).events =
      (captureResponse (currentEpoch s) r a s).events := by
    unfold captureResponse
    split
    · rfl
    · cases s.events.capture <;> rfl
  cases h <;> simp [afterTaking, giveUp, hcaptured]

theorem afterTaking_lostrb (h : Holder) (r : Request) (a : Ready) (s : State) :
    (afterTaking h r a s).engine.lostrb = s.engine.lostrb := by
  cases h with
  | taking | intakeHead | waiting => simp [afterTaking, giveUp]
  | host id =>
    have hkeeps := congrArg Prod.fst (retireHost_resetMarks id r
      (captureResponse (currentEpoch s) r a { s with hport := { s.hport with offered := none } }))
    simpa [afterTaking, giveUp, resetMarks] using hkeeps

/-! ## Parameters -/

/-- The writes of parameters (R187). -/
def writesParam (c : Instr) : Prop :=
  ∃ f, c = .writeDefaultPolicy f ∨ c = .writeFullAction f ∨ c = .writeJhighLevel f ∨ c = .writeWaitLimit f ∨
    c = .writeDlEnable f ∨ c = .writeDlPeriod f ∨ c = .writeDlTarget f ∨ c = .writeEventEnable f

theorem Execution.params_eq {c : Instr} {s u : State} (he : Execution c s u) (h : ¬writesParam c) : u.params = s.params := by
  cases he with
  | writeDefaultPolicy | writeFullAction | writeJhighLevel | writeWaitLimit => exact absurd (by simp [writesParam]) h
  | writeDlEnable | writeDlPeriod | writeDlTarget | writeEventEnable => exact absurd (by simp [writesParam]) h
  | _ => simp

/-- Settles O19: of the effects only the writes, the resets and step 4 reach a parameter. -/
theorem parametersChangeOnlyByWrites : Obligations.ParametersChangeOnlyByWrites := by
  intro c s t hq h hassert hrelease hnot
  cases effect_of_exec h with
  | executed f status payload _ _ hu =>
    refine hu.params_eq ?_
    rintro ⟨f', hf'⟩
    have := hnot f'
    tauto
  | softReset f _ =>
    obtain ⟨-, -, -, -, -, -, -, -, hreset⟩ := hnot f
    exact absurd rfl hreset
  | pornAssert => exact absurd rfl hassert
  | pornRelease => exact absurd rfl hrelease
  | nothing | link | issueGrant | operationAccepted | quietIntervalEnd | journalReady | firstExpiry => rfl
  | softResetStep4 | takeRequest | responseTaken | examination | waitExpiry | hostAnswer | restoreAnswer | secondExpiry =>
    simp [hq]

/-! ## Region tables -/

/-- A command of the link changes the active table by a promotion alone, and a software state by SET-REGION-STATE alone (R28,
R33, R34). -/
theorem Execution.regions_cases {c : Instr} {s u : State} (he : Execution c s u) :
    (u.regions.active = s.regions.active ∨
        (∃ f, c = .mark f ∨ c = .applyRegions f) ∧ u.regions.active = s.regions.staged ∧ u.regions.staged = s.regions.staged) ∧
      (u.regions.software = s.regions.software ∨ ∃ f, c = .setRegionState f) := by
  cases he with
  | applyRegions f => exact ⟨.inr ⟨⟨f, .inr rfl⟩, rfl, rfl⟩, .inl rfl⟩
  | setRegionState f i v =>
    refine ⟨.inl ?_, .inr ⟨f, rfl⟩⟩
    unfold setSoftwareState
    split <;> simp
  | mark f =>
    by_cases hd : s.regions.dirty = true
    · exact ⟨.inr ⟨⟨f, .inl rfl⟩, by simp [acceptMark, promoteIfDirty, hd, promote],
        by simp [acceptMark, promoteIfDirty, hd, promote]⟩, .inl (by simp [acceptMark, promoteIfDirty, hd, promote])⟩
    · exact ⟨.inl (by simp [acceptMark, promoteIfDirty, hd]), .inl (by simp [acceptMark, promoteIfDirty, hd])⟩
  | stageRegion | clearStaged | revertStaged => exact ⟨.inl rfl, .inl rfl⟩
  | _ => exact ⟨.inl (by simp), .inl (by simp)⟩

theorem reset_active_get (i : RegionIndex) : State.reset.regions.active.get i = RegionEntry.invalid := by
  simp [State.reset, Vector.get]

/-- Settles O20: of the effects only the executions, the resets and step 4 reach the region unit. -/
theorem activeTableChangesOnlyByPromotion : Obligations.ActiveTableChangesOnlyByPromotion := by
  intro c s t hq h
  cases effect_of_exec h with
  | executed f status payload _ _ hu =>
    obtain ⟨hactive, hsoftware⟩ := hu.regions_cases
    refine ⟨?_, ?_⟩
    · rcases hactive with hsame | hpromoted
      · exact .inl hsame
      · exact .inr (.inl hpromoted)
    · rcases hsoftware with hsame | ⟨f', rfl⟩
      · exact .inl hsame
      · exact .inr (.inl ⟨f', .inl rfl⟩)
  | softReset f _ =>
    refine ⟨?_, .inr (.inl ⟨f, .inr rfl⟩)⟩
    rcases settleQuiesce_cases (offerNext _) with he | ⟨toggle, -, -, he⟩
    · exact .inl (by rw [beginSoftReset, he]; simp)
    · exact .inr (.inr ⟨.inl ⟨f, rfl⟩, by rw [beginSoftReset, he]; exact reset_active_get⟩)
  | pornAssert => exact ⟨.inr (.inr ⟨.inr (.inl rfl), reset_active_get⟩), .inr (.inr (.inl rfl))⟩
  | pornRelease => exact ⟨.inr (.inr ⟨.inr (.inr rfl), reset_active_get⟩), .inr (.inr (.inr rfl))⟩
  | nothing | link | issueGrant | operationAccepted | quietIntervalEnd | journalReady | firstExpiry => exact ⟨.inl rfl, .inl rfl⟩
  | softResetStep4 | takeRequest | responseTaken | examination | waitExpiry | hostAnswer | restoreAnswer | secondExpiry =>
    simp [hq]

/-! ## The capture record -/

@[simp] theorem expire_capture (k : Nat) (s : State) : (expire k s).events.capture = s.events.capture := rfl

@[simp] theorem acceptRollback_capture (k : Nat) (s : State) :
    (acceptRollback k s).events.capture = s.events.capture := by
  unfold acceptRollback
  split <;> simp

theorem examineSubject_capture {subject : Subject} {s : State} (h : nextSubject s = some subject) :
    (examineSubject subject s).events.capture = s.events.capture := by
  rcases examineSubject_cases h with ⟨k, e, -, -, v, -, he⟩ | ⟨r, rest, -, v, -, he⟩ <;> rw [he]
  · cases v <;> simp [applyToWaiting]
  · cases v with
    | park reason region =>
      simp only [applyToHead]
      split <;> simp
    | _ => simp [applyToHead]

theorem hostAnswered_capture (e : HostEntry) (a : MemAnswer) (s : State) :
    (hostAnswered e a s).events.capture = s.events.capture := by
  rcases hostAnswered_cases e a s with ⟨-, he⟩ | ⟨phase, op, n, ⟨-, he⟩ | ⟨-, he⟩⟩ <;> rw [he] <;> simp

theorem restoreAnswered_capture (e : RestoreEntry) (a : MemAnswer) (s : State) :
    (restoreAnswered e a s).events.capture = s.events.capture := by
  rcases restoreAnswered_cases e a s with ⟨-, he⟩ | ⟨-, he⟩ | ⟨-, he⟩ | ⟨-, he⟩ | ⟨-, he⟩ <;> rw [he] <;> simp

/-- The capture record after a taking: a valid one counts, or stays (R153). -/
theorem captureResponse_of_valid {epoch : Epoch} {r : Request} {a : Ready} {s : State} {held : Capture}
    (h : s.events.capture = some held) :
    (captureResponse epoch r a s).events.capture = some held ∨
      (captureResponse epoch r a s).events.capture = some { held with further := min 255 (held.further + 1) } := by
  unfold captureResponse
  split
  · exact .inl h
  · rw [h]
    exact .inr rfl

/-- Settles O18: only the taking of a response reaches a valid record, and it counts. -/
theorem validCaptureOnlyCounts : Obligations.ValidCaptureOnlyCounts := by
  intro s t c held hheld hq h hnot hassert hrelease
  cases effect_of_exec h with
  | responseTaken holder r a _ _ _ =>
    simp only [settleQuiesce_of_none, offerNext_link, afterTaking_link, hq, offerNext_events, afterTaking_capture]
    exact (captureResponse_of_valid hheld).imp id fun h => ⟨trivial, h⟩
  | executed f status payload _ _ hu =>
    refine .inl (.trans ?_ hheld)
    cases hu with
    | ackCapture f => exact absurd rfl (hnot f).1
    | _ => simp [clearFlags]
  | softReset f _ => exact absurd rfl (hnot f).2
  | pornAssert => exact absurd rfl hassert
  | pornRelease => exact absurd rfl hrelease
  | nothing | link | issueGrant | operationAccepted | quietIntervalEnd | journalReady | firstExpiry => exact .inl hheld
  | examination subject hn => exact .inl (by simp [examineSubject_capture hn, hheld])
  | softResetStep4 | takeRequest | waitExpiry | hostAnswer | restoreAnswer | secondExpiry =>
    exact .inl (by simp [hq, hheld, hostAnswered_capture, restoreAnswered_capture])

/-! ## The link -/

/-- The settling of a quiesce leaves the link as it is, or is step 4 (R173). -/
theorem settleQuiesce_link (s : State) :
    (settleQuiesce s).link = s.link ∨
      ∃ toggle, s.link.quiesce = some toggle ∧ (settleQuiesce s).link.quiesce = none ∧
        (settleQuiesce s).link.expected = !toggle := by
  rcases settleQuiesce_cases s with he | ⟨toggle, ht, -, he⟩ <;> rw [he]
  · exact .inl rfl
  · exact .inr ⟨toggle, ht, rfl, rfl⟩

/-- Settles O21: of the effects only the periods, the resets and step 4 reach the link. -/
theorem linkChangesOnlyByItsPeriods : Obligations.LinkChangesOnlyByItsPeriods := by
  intro c s t h hframe hperiod hassert hrelease
  have hstep4 : ∀ u : State, u.link = s.link →
      (c = .responseTaken ∨ (∃ i a, c = .answer i a) ∨ c = .softResetStep4) →
      (settleQuiesce u).link = s.link ∨
        (∃ toggle, s.link.quiesce = some toggle ∧ (settleQuiesce u).link.quiesce = none ∧
          (settleQuiesce u).link.expected = !toggle) ∧
        (c = .responseTaken ∨ (∃ i a, c = .answer i a) ∨ c = .softResetStep4) := by
    intro u hu hc
    rcases settleQuiesce_link u with he | hreset
    · exact .inl (he.trans hu)
    · exact .inr ⟨hu ▸ hreset, hc⟩
  cases effect_of_exec h with
  | link l hc _ =>
    rcases hc with hf | ⟨start, bits, rfl⟩ | ⟨code, f, rfl⟩ | ⟨start, clocked, rfl⟩
    · exact absurd hframe hf
    · obtain ⟨herror, -, -⟩ := hperiod start bits 0 ⟨start, false, []⟩ 0
      exact absurd rfl herror
    · obtain ⟨-, hrepeat, -⟩ := hperiod .live [] code f 0
      exact absurd rfl hrepeat
    · obtain ⟨-, -, hfetch⟩ := hperiod start [] 0 ⟨start, false, []⟩ clocked
      exact absurd rfl hfetch
  | executed f _ _ hf => rw [hframe] at hf; cases hf
  | softReset f _ => cases hframe
  | pornAssert => exact absurd rfl hassert
  | pornRelease => exact absurd rfl hrelease
  | softResetStep4 => exact hstep4 s rfl (.inr (.inr rfl))
  | responseTaken holder r a => exact hstep4 _ (by simp) (.inl rfl)
  | hostAnswer identity a id e => exact hstep4 _ (by simp) (.inr (.inl ⟨identity, a, rfl⟩))
  | restoreAnswer identity a e => exact hstep4 _ (by simp) (.inr (.inl ⟨identity, a, rfl⟩))
  | nothing | issueGrant | operationAccepted | quietIntervalEnd | journalReady | firstExpiry => exact .inl rfl
  | takeRequest | examination | waitExpiry | secondExpiry => exact .inl (by simp)

/-! ## LOSTRB -/

@[simp] theorem settleQuiesce_lostrb (s : State) : (settleQuiesce s).engine.lostrb = s.engine.lostrb := by
  rcases settleQuiesce_cases s with he | ⟨toggle, -, -, he⟩ <;> rw [he]
  rfl

theorem acceptRollback_lostrb (k : Nat) (s : State) : (acceptRollback k s).engine.lostrb = s.engine.lostrb := by
  unfold acceptRollback
  split
  · rfl
  · exact (congrArg Prod.fst (drainTest_resetMarks _)).trans (by simp [resetMarks])

theorem hostAnswered_lostrb (e : HostEntry) (a : MemAnswer) (s : State) :
    (hostAnswered e a s).engine.lostrb = s.engine.lostrb := by
  rcases hostAnswered_cases e a s with ⟨-, he⟩ | ⟨phase, op, n, ⟨-, he⟩ | ⟨-, he⟩⟩ <;> rw [he]
  · rfl
  · exact (congrArg Prod.fst (drainTest_resetMarks _)).trans (by simp [resetMarks])

theorem restoreAnswered_lostrb (e : RestoreEntry) (a : MemAnswer) (s : State) :
    (restoreAnswered e a s).engine.lostrb = s.engine.lostrb := by
  rcases restoreAnswered_cases e a s with ⟨-, he⟩ | ⟨-, he⟩ | ⟨-, he⟩ | ⟨-, he⟩ | ⟨-, he⟩ <;> rw [he]
  · simp
  · exact (congrArg Prod.fst (continueRestore_resetMarks _)).trans (by simp [resetMarks])
  · rfl

/-- Of the link's executions MARK alone moves LOSTRB, and clears it (R131). -/
theorem Execution.lostrb_cases {c : Instr} {s u : State} (he : Execution c s u) :
    u.engine.lostrb = s.engine.lostrb ∨ (∃ f, c = .mark f) ∧ u.engine.lostrb = false := by
  cases he with
  | mark f => exact .inr ⟨⟨f, rfl⟩, rfl⟩
  | rollback f k => exact .inl (acceptRollback_lostrb k s)
  | discard f => exact .inl (by simp [acceptDiscard])
  | _ => exact .inl (by simp)

/-- What becomes of LOSTRB (R131). -/
theorem Effect.lostrb_cases {c : Instr} {s t : State} (he : Effect c s t) :
    t.engine.lostrb = s.engine.lostrb ∨
      (∃ f, c = .softReset f) ∧ t.engine.lostrb = (s.engine.lostrb || decide (s.engine.state ≠ .idle)) ∨
      ((∃ f, c = .mark f) ∨ c = .pornRelease) ∧ t.engine.lostrb = false := by
  cases he with
  | executed f status payload _ _ hu =>
    rcases hu.lostrb_cases with hsame | ⟨hmark, hclear⟩
    · exact .inl hsame
    · exact .inr (.inr ⟨.inl hmark, hclear⟩)
  | softReset f _ => exact .inr (.inl ⟨⟨f, rfl⟩, by simp [beginSoftReset]⟩)
  | pornRelease => exact .inr (.inr ⟨.inr rfl, rfl⟩)
  | secondExpiry k => exact .inl (acceptRollback_lostrb k _)
  | hostAnswer identity a id e => exact .inl (by simp [hostAnswered_lostrb])
  | restoreAnswer identity a e => exact .inl (by simp [restoreAnswered_lostrb])
  | responseTaken holder r a => exact .inl (by simp [afterTaking_lostrb])
  | nothing | link | issueGrant | operationAccepted | quietIntervalEnd | journalReady | firstExpiry | pornAssert => exact .inl rfl
  | softResetStep4 | takeRequest | examination | waitExpiry => exact .inl (by simp)

/-- Settles O22, from the three things that can become of LOSTRB. -/
theorem lostrbChangesOnlyAsR131Says : Obligations.LostrbChangesOnlyAsR131Says := by
  intro c s t h
  rcases (effect_of_exec h).lostrb_cases with hsame | ⟨hreset, hset⟩ | ⟨hcause, hclear⟩
  · exact ⟨fun ht hs => by simp [ht, hs] at hsame, fun ht hs => by simp [ht, hs] at hsame⟩
  · exact ⟨fun ht hs => ⟨hreset, by simpa [ht, hs] using hset⟩, fun ht hs => by simp [ht, hs] at hset⟩
  · exact ⟨fun ht _ => by simp [ht] at hclear, fun _ _ => hcause⟩

/-! ## Table entries -/

/-- The two tables are as R19 and R20 say. -/
def tablesSound (g : Regions) : Prop :=
  (g.dirty = true ↔ g.staged ≠ g.active) ∧ ∀ i : RegionIndex, entryProper (g.active.get i) ∧ entryProper (g.staged.get i)

theorem tablesSound_iff (s : State) : tablesSound s.regions ↔ dirtyExact s ∧ tablesProper s := Iff.rfl

theorem entryProper_invalid : entryProper RegionEntry.invalid := ⟨fun h => absurd h (by decide), fun _ => rfl⟩

theorem tablesSound_reset : tablesSound State.reset.regions := by
  refine ⟨⟨fun h => absurd h (by decide), fun h => absurd rfl h⟩, fun i => ?_⟩
  have hi : State.reset.regions.staged.get i = RegionEntry.invalid := reset_active_get i
  rw [reset_active_get i, hi]
  exact ⟨entryProper_invalid, entryProper_invalid⟩

/-- Staging a table of proper entries, with staged-dirty brought up to date (R20, R30). -/
theorem tablesSound_editStaged {s : State} {staged : Vector RegionEntry 12} (h : tablesSound s.regions)
    (hstaged : ∀ i : RegionIndex, entryProper (staged.get i)) : tablesSound (editStaged staged s).regions := by
  obtain ⟨-, hproper⟩ := h
  exact ⟨decide_eq_true_iff, fun i => ⟨(hproper i).1, hstaged i⟩⟩

theorem entryProper_set {table : Vector RegionEntry 12} {e : RegionEntry} (h : ∀ i : RegionIndex, entryProper (table.get i))
    (he : entryProper e) (k i : RegionIndex) : entryProper ((table.set k e).get i) := by
  by_cases hik : k = i
  · subst hik
    simpa [Vector.get_eq_getElem] using he
  · have hne : k.val ≠ i.val := fun hval => hik (Fin.ext hval)
    simpa [Vector.get_eq_getElem, Vector.getElem_set_ne, hne] using h i

/-- A promotion copies the staged table (R33). -/
theorem tablesSound_promote {s : State} (h : tablesSound s.regions) : tablesSound (promote s).regions := by
  obtain ⟨-, hproper⟩ := h
  exact ⟨⟨fun h => absurd h (by simp [promote]), fun h => absurd rfl h⟩, fun i => ⟨(hproper i).2, (hproper i).2⟩⟩

theorem Execution.tablesSound {c : Instr} {s u : State} (he : Execution c s u) (h : tablesSound s.regions) :
    tablesSound u.regions := by
  have hproper := h.2
  cases he with
  | stageRegion f i e hv hle =>
    exact tablesSound_editStaged h (entryProper_set (fun i => (hproper i).2)
      ⟨fun _ => hle, fun hinvalid => by simp [hv] at hinvalid⟩ i)
  | clearStaged f i =>
    exact tablesSound_editStaged h (entryProper_set (fun i => (hproper i).2) entryProper_invalid i)
  | revertStaged f => exact tablesSound_editStaged h fun i => (hproper i).1
  | applyRegions f => exact tablesSound_promote h
  | setRegionState f i v =>
    unfold setSoftwareState
    split <;> exact h
  | mark f =>
    by_cases hd : s.regions.dirty = true
    · simpa [acceptMark, promoteIfDirty, hd] using tablesSound_promote (s := pushCheckpoint s) h
    · simpa [acceptMark, promoteIfDirty, hd] using h
  | _ => simpa using h

theorem Effect.tablesSound {c : Instr} {s t : State} (he : Effect c s t) (h : tablesSound s.regions) :
    tablesSound t.regions := by
  have hsettle : ∀ u : State, u.regions = s.regions → Machine.tablesSound (settleQuiesce u).regions := fun u hu =>
    settleQuiesce_keeps (P := fun s => Machine.tablesSound s.regions) (hu ▸ h) fun _ => tablesSound_reset
  cases he with
  | executed f _ _ _ _ hu => exact hu.tablesSound h
  | pornAssert | pornRelease => exact tablesSound_reset
  | softReset | softResetStep4 | responseTaken | hostAnswer | restoreAnswer => exact hsettle _ (by simp)
  | nothing | link | issueGrant | operationAccepted | quietIntervalEnd | journalReady | firstExpiry => exact h
  | takeRequest | examination | waitExpiry | secondExpiry => simpa using h

/-- Settles O14: an edit brings staged-dirty up to date, a promotion makes the tables equal, and a staged entry is proper. -/
theorem stepKeepsTablesProper : Obligations.StepKeepsTablesProper := fun _ _ hdirty hproper hstep =>
  step_keeps (P := fun s => tablesSound s.regions) (fun _ _ h => h) (fun _ _ _ h he => he.tablesSound h)
    (fun _ h _ => h) ⟨hdirty, hproper⟩ hstep

end Sys2Proof.Machine
end

section
/-!
PROOFS. The step and the clock: every command completes, takes no time and leaves the queue; an idle step takes the event
that is due or lets 1 µs pass; and the timer counts (R135).
-/

namespace Sys2Proof.Machine

/-! ## Every command completes -/

/-- No effect moves the clock or the queue, and none but those of PORn move PORn. -/
theorem Effect.clock_queue_porn {c : Instr} {s t : State} (he : Effect c s t) :
    t.pending = s.pending ∧ t.now = s.now ∧ (c ≠ .pornAssert → c ≠ .pornRelease → t.porn = s.porn) := by
  cases he with
  | executed f status payload _ _ hu =>
    obtain ⟨hporn, hnow, hpending⟩ := hu.porn_now_pending
    exact ⟨hpending, hnow, fun _ _ => hporn⟩
  | pornAssert => exact ⟨rfl, rfl, fun h _ => absurd rfl h⟩
  | pornRelease => exact ⟨rfl, rfl, fun _ h => absurd rfl h⟩
  | responseTaken holder r a => cases holder <;> simp [afterTaking, giveUp]
  | nothing | link | issueGrant | operationAccepted | quietIntervalEnd | journalReady | firstExpiry =>
    exact ⟨rfl, rfl, fun _ _ => rfl⟩
  | softReset | softResetStep4 | takeRequest | examination | waitExpiry | hostAnswer | restoreAnswer | secondExpiry =>
    simp [beginSoftReset]

/-- Settles O3: `exec` is total, and each effect leaves the clock and the queue. -/
theorem everyCommandCompletes : Obligations.EveryCommandCompletes := by
  intro c s
  obtain ⟨t, ht⟩ := exec_next c s
  exact ⟨t, ht, (effect_of_exec ht).clock_queue_porn⟩

/-! ## The step -/

/-- Settles O1: this is the first branch of `step`. -/
theorem stepRunsFrontCommand : Obligations.StepRunsFrontCommand := fun _ _ _ => rfl

theorem step_of_due {s : State} {c : Instr} (hp : s.pending = []) (hd : dueEvent s = some c) : step s = exec c s := by
  simp only [step, hp, hd]

theorem step_of_none_due {s : State} (hp : s.pending = []) (hd : dueEvent s = none) : step s = .next (tick s) := by
  simp only [step, hp, hd]

/-- Settles O2: the clauses are the branches of `dueEvent` in their order. -/
theorem idleStepAdvancesTime : Obligations.IdleStepAdvancesTime := by
  intro s hp
  refine ⟨fun hq => step_of_due hp (by simp [dueEvent, hq]), fun hq => ⟨fun hi => step_of_due hp (by simp [dueEvent, hq, hi]),
    fun hi => ⟨fun k hk hbefore => ?_, fun hnone => ?_⟩⟩⟩
  · have hplace : expiredPlace s = some k := (find?_finRange_eq_some _ k).mpr ⟨hk, hbefore⟩
    exact step_of_due hp (by simp [dueEvent, hq, hi, hplace])
  · have hplace : expiredPlace s = none := (find?_finRange_eq_none _).mpr hnone
    refine ⟨fun hporn hf => step_of_due hp (by simp [dueEvent, hq, hi, hplace, hporn, hf]),
      fun hporn hf hs => step_of_due hp (by simp [dueEvent, hq, hi, hplace, hporn, hf, hs]), fun hidle => ?_⟩
    refine step_of_none_due hp ?_
    rcases hidle with hporn | ⟨hf, hs⟩
    · simp [dueEvent, hq, hi, hplace, hporn]
    · simp [dueEvent, hq, hi, hplace, hf, hs]

/-! ## The timer's count -/

/-- One period of a counting timer: 1 µs is counted, and the divider stays below 1000 (R135). -/
theorem tickTimer_counts {t : Timer} (hs : t.state = .running ∨ t.state = .warned) (hd : t.divider < 1000) :
    (tickTimer t).state = t.state ∧ (tickTimer t).period = t.period ∧ (tickTimer t).divider < 1000 ∧
      1000 * (tickTimer t).elapsed + (tickTimer t).divider = 1000 * t.elapsed + t.divider + 1 := by
  rw [tickTimer_counting hs]
  split
  · refine ⟨rfl, rfl, Nat.zero_lt_succ _, ?_⟩
    dsimp only
    omega
  · refine ⟨rfl, rfl, ?_, ?_⟩ <;> dsimp only <;> omega

theorem tick_iterate_now (s : State) (n : Nat) : (tick^[n] s).now = s.now + n := by
  induction n with
  | zero => rfl
  | succ n ih => rw [Function.iterate_succ_apply', tick, ih, Nat.add_assoc]

theorem tick_iterate_counts {s : State} (hs : s.timer.state = .running ∨ s.timer.state = .warned)
    (hd : s.timer.divider < 1000) (n : Nat) :
    (tick^[n] s).timer.state = s.timer.state ∧ (tick^[n] s).timer.period = s.timer.period ∧
      (tick^[n] s).timer.divider < 1000 ∧
      1000 * (tick^[n] s).timer.elapsed + (tick^[n] s).timer.divider = 1000 * s.timer.elapsed + s.timer.divider + n := by
  induction n with
  | zero => exact ⟨rfl, rfl, hd, rfl⟩
  | succ n ih =>
    obtain ⟨hstate, hperiod, hdivider, hcount⟩ := ih
    obtain ⟨hstate', hperiod', hdivider', hcount'⟩ := tickTimer_counts (by rwa [hstate]) hdivider
    rw [Function.iterate_succ_apply']
    exact ⟨hstate'.trans hstate, hperiod'.trans hperiod, hdivider', by rw [tick, hcount', hcount, Nat.add_assoc]⟩

theorem tick_iterate_still {s : State} (hs : s.timer.state = .off ∨ s.timer.state = .suspended) (n : Nat) :
    (tick^[n] s).timer = s.timer := by
  induction n with
  | zero => rfl
  | succ n ih =>
    rw [Function.iterate_succ_apply', tick, ih]
    exact tickTimer_still hs

/-- Settles O4, by induction on the periods. -/
theorem timerCountsWholeMilliseconds : Obligations.TimerCountsWholeMilliseconds := fun s n =>
  ⟨tick_iterate_now s n, fun hs hd => tick_iterate_counts hs hd n, fun hs => tick_iterate_still hs n⟩

end Sys2Proof.Machine
end

section
/-!
PROOFS. Frames and select periods: bytes travel through bits and back, a frame reads back as what it carries, a period spells
an event of its row, and the CRC's residue is 0 for the right CRC byte alone (R158 to R166, R176).
-/

namespace Sys2Proof.Machine

/-! ## Bits and bytes -/

/-- The byte that the bits of a byte make is that byte (R158). -/
theorem byteOfBits_getMsbD (b : Byte) :
    byteOfBits (b.getMsbD 0) (b.getMsbD 1) (b.getMsbD 2) (b.getMsbD 3) (b.getMsbD 4) (b.getMsbD 5) (b.getMsbD 6)
      (b.getMsbD 7) = b := by
  refine BitVec.eq_of_getMsbD_eq fun i hi => ?_
  rw [byteOfBits, BitVec.getMsbD_ofBoolListBE]
  match i with
  | 0 | 1 | 2 | 3 | 4 | 5 | 6 | 7 => rfl

/-- Bytes read back from the bits that carry them, whatever follows (R158). -/
theorem bytesOfBits_bitsOfBytes (bs : List Byte) (after : List Bool) :
    bytesOfBits (bitsOfBytes bs ++ after) = bs ++ bytesOfBits after := by
  induction bs with
  | nil => rfl
  | cons b bs ih =>
    have hbits : bitsOfBytes (b :: bs) ++ after = bitsOfByte b ++ (bitsOfBytes bs ++ after) := by
      rw [bitsOfBytes, List.flatMap_cons, List.append_assoc, ← bitsOfBytes]
    rw [hbits, bitsOfByte]
    simp only [List.cons_append, List.nil_append, bytesOfBits, ih]
    rw [byteOfBits_getMsbD]

/-! ## Frames -/

/-- Byte 0 of a frame is its toggle bit and its code (R161). -/
theorem msb_toggle_append (toggle : Bool) (code : BitVec 7) : (BitVec.ofBool toggle ++ code).msb = toggle := by
  rw [BitVec.msb_append]
  cases toggle <;> rfl

theorem code_toggle_append (toggle : Bool) (code : BitVec 7) :
    (BitVec.ofBool toggle ++ code).extractLsb' 0 7 = code := by
  refine BitVec.eq_of_getLsbD_eq fun i hi => ?_
  rw [BitVec.getLsbD_extractLsb', BitVec.getLsbD_append]
  simp [hi]

/-- A complete frame reads back as what it carries, whatever follows (R160, R161). -/
theorem readFrame_frameBytes (toggle : Bool) (code : BitVec 7) {payload : List Byte} (after : List Byte)
    (hlen : payload.length ≤ 40) : readFrame (frameBytes toggle code payload ++ after) = .frame toggle code payload := by
  have hL : (BitVec.ofNat 8 payload.length).toNat = payload.length := by
    rw [BitVec.toNat_ofNat]
    omega
  have hcrc : (payload ++ [crc8 (frameBody toggle code payload)] ++ after)[payload.length]? =
      some (crc8 (frameBody toggle code payload)) := by simp
  have htake : (payload ++ [crc8 (frameBody toggle code payload)] ++ after).take payload.length = payload := by simp
  have hbytes : frameBytes toggle code payload ++ after =
      (BitVec.ofBool toggle ++ code) :: BitVec.ofNat 8 payload.length ::
        (payload ++ [crc8 (frameBody toggle code payload)] ++ after) := rfl
  rw [hbytes, readFrame, hL, if_neg (by simpa [Config.maxPayload] using hlen), hcrc, htake, msb_toggle_append,
    code_toggle_append]
  exact if_pos rfl

/-- Settles O5: bits to bytes, then the frame after the marker. -/
theorem commandPeriodReadsBack : Obligations.CommandPeriodReadsBack := by
  intro toggle code payload after hlen
  rw [readPeriod, commandPeriodBits, bytesOfBits_bitsOfBytes, List.cons_append]
  exact (if_pos rfl).trans (readFrame_frameBytes toggle code _ hlen)

/-- A frame that completed has at most 40 bytes of payload (R160). -/
theorem payload_length_of_readPeriod {bits : List Bool} {toggle : Bool} {code : BitVec 7} {payload : List Byte}
    (h : readPeriod bits = .frame toggle code payload) : payload.length ≤ 40 := by
  unfold readPeriod at h
  split at h
  · cases h
  · split at h
    · unfold readFrame at h
      split at h
      · split at h
        · cases h
        · rename_i hlen
          split at h
          · cases h
          · split at h
            · cases h
              exact (List.length_take_le _ _).trans (not_lt.mp hlen)
            · cases h
      · cases h
    · split at h <;> cases h

theorem writesParam_iff {f : Frame} {own : Nat} : f.writesParam own = true ↔ f.wellFormed = true ∧
    (f.payload.length = 3 → (f.payload.getD 0 0).toNat = own ∨ (f.payload.getD 0 0).toNat = 0 ∨
      8 < (f.payload.getD 0 0).toNat) := by
  simp only [Frame.writesParam, Bool.and_eq_true, Bool.or_eq_true, bne_iff_ne, beq_iff_eq, decide_eq_true_eq, or_assoc,
    ne_eq, imp_iff_not_or]

/-- A frame given to the row of the identifier it names is one of that row (R187). -/
theorem writesParam_of_named {f : Frame} {own : Nat} (hf : f.wellFormed = true)
    (h : (if f.payload.length = 3 then (f.payload.getD 0 0).toNat else 0) = own) : f.writesParam own = true :=
  writesParam_iff.mpr ⟨hf, fun hlen => .inl (by rwa [if_pos hlen] at h)⟩

/-- A WRITE-PARAM frame is given to the row of the identifier it names, or to the first row (R187, R189). -/
theorem writeParamCommand_wellFormed {f : Frame} (hf : f.wellFormed = true) : (writeParamCommand f).wellFormed = true := by
  unfold writeParamCommand
  split
  case h_8 hfull hjhigh hwait henable hperiod htarget hmask =>
    refine writesParam_iff.mpr ⟨hf, fun hlen => ?_⟩
    simp only [if_pos hlen, imp_false] at hfull hjhigh hwait henable hperiod htarget hmask
    omega
  all_goals exact writesParam_of_named hf ‹_›

theorem commandOfCode_wellFormed (code : BitVec 7) {f : Frame} (hf : f.wellFormed = true) :
    (commandOfCode code f).wellFormed = true := by
  unfold commandOfCode
  split
  case h_8 => exact writeParamCommand_wellFormed hf
  case h_22 => simp_all [Instr.wellFormed, isKnownCode, knownCodes, BitVec.toNat_eq]
  all_goals exact hf

/-- Settles O6: the rows of each reading, and a frame's row by its code. -/
theorem periodSpellsItsRow : Obligations.PeriodSpellsItsRow := by
  refine ⟨fun expected start bits c h => ?_, fun expected toggle start code payload hlen => ?_⟩
  · unfold periodCommand at h
    split at h
    · cases h
    · cases h
      rfl
    · rename_i hread
      cases h
      exact decide_eq_true hread
    · rename_i toggle code payload hread
      have hf : (Frame.mk start toggle payload).wellFormed = true :=
        decide_eq_true (payload_length_of_readPeriod hread)
      split at h <;> cases h
      · exact commandOfCode_wellFormed code hf
      · exact hf
  · have hread := commandPeriodReadsBack toggle code payload [] hlen
    rw [List.append_nil] at hread
    simp only [periodCommand, hread]
    split <;> rfl

/-! ## The CRC -/

/-- The polynomial's lowest bit is 1, so a shift brings only 0 to 0 (R162). -/
theorem crcShift_eq_zero_iff (r : Byte) : crcShift r = 0#8 ↔ r = 0#8 := by
  unfold crcShift
  split
  · rename_i hmsb
    constructor
    · intro h
      have hbit := congrArg (BitVec.getLsbD · 0) h
      simp at hbit
    · rintro rfl
      cases hmsb
  · rename_i hmsb
    rw [Bool.not_eq_true, BitVec.msb_eq_false_iff_two_mul_lt] at hmsb
    bv_omega

theorem crcShift_iterate_eq_zero_iff (n : Nat) (r : Byte) : crcShift^[n] r = 0#8 ↔ r = 0#8 := by
  induction n generalizing r with
  | zero => rfl
  | succ n ih => rw [Function.iterate_succ_apply, ih, crcShift_eq_zero_iff]

/-- Settles O7: the last byte's eight shifts end at 0 exactly when it equals the register. -/
theorem crcResidueIsZero : Obligations.CrcResidueIsZero := by
  intro bytes last
  rw [crcFrom, List.foldl_append, List.foldl_cons, List.foldl_nil, crcByte]
  rw [crcShift_iterate_eq_zero_iff, BitVec.xor_eq_zero_iff, eq_comm]
  rfl

end Sys2Proof.Machine
end

section
/-!
PROOFS. What the part ignores: everything while PORn is low but its release, every select period in a quiesce, and a command
frame that is sent again (R16, R40, R59, R165, R166, R169, R174).
-/

namespace Sys2Proof.Machine

/-! ## The frames of the service commands -/

/-- A WRITE-PARAM is the receipt of its frame, which is not executed when it names another row's parameter (R189). -/
theorem writeParam_eq_receiveFrame (p : Param) (store : Nat → State → State) (f : Frame) :
    ∃ execute, ∀ s, writeParam p store f s = receiveFrame f execute s := by
  by_cases hanother : namesAnother p f = true
  · have hshort : ¬Config.maxPayload < f.payload.length := by
      have hlen : f.payload.length = 3 := by
        simp only [namesAnother, Bool.and_eq_true, decide_eq_true_eq] at hanother
        exact hanother.1
      simp [hlen, Config.maxPayload]
    refine ⟨id, fun s => ?_⟩
    by_cases htoggle : f.toggle = s.link.expected
    · simp [writeParam, hanother, htoggle, receiveFrame, hshort]
    · simp [writeParam, htoggle, execCommand, receiveFrame, hshort]
  · exact ⟨_, fun s => if_neg fun h => hanother h.1⟩

/-- A service command is the receipt of its frame (R165). -/
theorem exec_eq_receiveFrame {c : Instr} {f : Frame} (hf : frameOf c = some f) :
    ∃ execute, ∀ s, exec c s = .next (receiveFrame f execute s) := by
  cases c with
  | writeDefaultPolicy f' | writeFullAction f' | writeJhighLevel f' | writeWaitLimit f' | writeDlEnable f' | writeDlPeriod f'
  | writeDlTarget f' | writeEventEnable f' =>
    obtain rfl := Option.some.inj hf
    obtain ⟨execute, h⟩ := writeParam_eq_receiveFrame _ _ _
    exact ⟨execute, fun s => congrArg Host.Outcome.next (h s)⟩
  | unknownCommand code f' =>
    obtain rfl := Option.some.inj hf
    exact ⟨_, fun s => rfl⟩
  | identify f' | readStatus f' | readEvents f' | clearEvents f' | readCapture f' | ackCapture f' | readParam f'
  | stageRegion f' | clearStaged f' | revertStaged f' | applyRegions f' | setRegionState f' | readRegion f'
  | mark f' | release f' | rollback f' | discard f' | readCheckpoints f' | readJournal f' | softReset f' =>
    obtain rfl := Option.some.inj hf
    exact ⟨_, fun s => rfl⟩
  | _ => cases hf

/-- A frame is not taken while the link does not listen (R169, R174). -/
theorem exec_of_not_listening {c : Instr} {f : Frame} {s : State} (hf : frameOf c = some f)
    (h : linkListens f.start s = false) : exec c s = .next s := by
  obtain ⟨execute, he⟩ := exec_eq_receiveFrame hf
  rw [he, receiveFrame_of_not_listening h]

theorem linkListens_iff (start : PeriodStart) (s : State) :
    linkListens start s = true ↔ s.porn = true ∧ s.link.quiesce = none ∧ start = .live := by
  simp [linkListens, quiescing, and_assoc]

theorem linkListens_eq_false (start : PeriodStart) (s : State) :
    linkListens start s = false ↔ s.porn = false ∨ s.link.quiesce ≠ none ∨ start ≠ .live := by
  rw [← Bool.not_eq_true, linkListens_iff, not_and_or, not_and_or, Bool.not_eq_true]

/-! ## Without power, and in a quiesce -/

/-- While PORn is low every command but its release leaves the part as it is. -/
theorem exec_of_porn_low {c : Instr} {s : State} (hp : s.porn = false) (hc : c ≠ .pornRelease) : exec c s = .next s := by
  cases hf : frameOf c with
  | some f => exact exec_of_not_listening hf ((linkListens_eq_false _ s).mpr (.inl hp))
  | none =>
    cases c with
    | pornRelease => exact absurd rfl hc
    | takeRequest r => exact exec_takeRequest_of_not_canTake (by simp [canTake_iff, hp])
    | frameError start bits =>
      have h := (linkListens_eq_false start s).mpr (.inl hp)
      exact congrArg Host.Outcome.next (if_neg fun hl => by simp [h] at hl)
    | repeatFrame code f =>
      have h := (linkListens_eq_false f.start s).mpr (.inl hp)
      exact congrArg Host.Outcome.next (receiveFrame_of_not_listening h id)
    | examination =>
      have hnone : nextSubject s = none := by simp [nextSubject, hp]
      simp [exec, execExamination, hnone]
    | waitExpiry place => exact congrArg Host.Outcome.next (if_neg (by simp [expiryDue, hp]))
    | quietIntervalEnd => exact congrArg Host.Outcome.next (if_neg (by simp [quietIntervalDue, hp]))
    | journalReady => exact congrArg Host.Outcome.next (if_neg (by unfold initialisationDue; split <;> simp [hp]))
    | responseTaken | issueGrant | operationAccepted | answer | pornAssert | firstExpiry | secondExpiry | fetchPeriod
    | softResetStep4 => exact congrArg Host.Outcome.next (if_neg (by simp [hp]))
    | _ => cases hf

/-- A stage that is not free examines nothing (R37, R40, R59). -/
theorem exec_examination_of_not_stageFree {s : State} (h : ¬stageFree s) : exec .examination s = .next s := by
  have hnone : nextSubject s = none := by
    refine if_neg ?_
    rintro ⟨hp, hq, hst⟩
    exact h ⟨hp, by simpa [quiescing] using hq, hst⟩
  simp [exec, execExamination, hnone]

/-- Settles O16: each command's own guard. -/
theorem powerlessOrQuiescentPartIgnores : Obligations.PowerlessOrQuiescentPartIgnores := by
  refine ⟨fun c s hp hc => exec_of_porn_low hp hc, fun s h => exec_examination_of_not_stageFree h, fun s f h => ?_⟩
  have hlistens : linkListens f.start s = false := (linkListens_eq_false _ s).mpr (.inr h)
  refine ⟨fun c hf => exec_of_not_listening hf hlistens, fun code => ?_, fun bits => ?_, fun hq r => ?_⟩
  · exact congrArg Host.Outcome.next (receiveFrame_of_not_listening hlistens id)
  · exact congrArg Host.Outcome.next (if_neg fun hl => by simp [hlistens] at hl)
  · exact exec_takeRequest_of_not_canTake (by simp [canTake_iff, hq])

/-! ## The same frame twice -/

/-- A frame that was executed finds its toggle no longer expected and its response stored, or a quiesce under way, or it had
changed nothing (R165, R170). -/
theorem executed_cases {c : Instr} {f : Frame} {s t : State} (hf : frameOf c = some f) (hr : Receives f s)
    (hl : f.payload.length ≤ 40) (h : exec c s = .next t) :
    t = s ∨ t.link.quiesce ≠ none ∨ t.link.expected ≠ f.toggle ∧ t.link.fetchResponse = some t.link.repeatResponse := by
  obtain ⟨-, -, -, htoggle⟩ := id hr
  have hanswered : ∀ status payload, (answeredLink f status payload s.link).expected ≠ f.toggle ∧
      (answeredLink f status payload s.link).fetchResponse = some (answeredLink f status payload s.link).repeatResponse :=
    fun status payload => ⟨by simp [answeredLink, htoggle], rfl⟩
  cases effect_of_exec h with
  | nothing => exact .inl rfl
  | link l _ _ hlink =>
    obtain ⟨status, payload, rfl⟩ := hlink f hf hr hl
    exact .inr (.inr (hanswered status payload))
  | executed f' status payload hf' =>
    obtain rfl := frame_unique hf f' hf'
    exact .inr (.inr (hanswered status payload))
  | softReset f' =>
    obtain rfl := frame_unique hf f' rfl
    rcases settleQuiesce_cases (offerNext _) with he | ⟨toggle, ht, -, he⟩
    · exact .inr (.inl (by rw [beginSoftReset, he]; simp))
    · rw [beginSoftReset, he]
      rw [offerNext_link] at ht
      obtain rfl := Option.some.inj ht
      exact .inr (.inr ⟨by simp [softResetValues], rfl⟩)
  | _ => cases hf

theorem storeRepeat_of_stored {s : State} (h : s.link.fetchResponse = some s.link.repeatResponse) : storeRepeat s = s := by
  rw [storeRepeat, ← h]

theorem receiveFrame_of_long {f : Frame} {s : State} (h : linkListens f.start s = true) (hlong : 40 < f.payload.length)
    (execute : State → State) : receiveFrame f execute s = storeFrameErr s := by
  simp [receiveFrame, h, Config.maxPayload, hlong]

theorem receiveFrame_of_repeat {f : Frame} {s : State} (h : linkListens f.start s = true) (hl : f.payload.length ≤ 40)
    (htoggle : f.toggle ≠ s.link.expected) (execute : State → State) : receiveFrame f execute s = storeRepeat s := by
  simp [receiveFrame, h, Config.maxPayload, not_lt.mpr hl, htoggle]

/-- A frame whose toggle is not expected changes nothing once the repeat-response is stored (R166). -/
theorem exec_of_stored {c : Instr} {f : Frame} {s : State} (hf : frameOf c = some f) (hl : f.payload.length ≤ 40)
    (htoggle : f.toggle ≠ s.link.expected) (hstored : s.link.fetchResponse = some s.link.repeatResponse) :
    exec c s = .next s := by
  by_cases hlistens : linkListens f.start s = true
  · obtain ⟨execute, he⟩ := exec_eq_receiveFrame hf
    rw [he, receiveFrame_of_repeat hlistens hl htoggle, storeRepeat_of_stored hstored]
  · exact exec_of_not_listening hf (Bool.not_eq_true _ ▸ hlistens)

/-- Settles O23: a frame that was not executed is met in the same way again, and an executed one as a repeat or not at all. -/
theorem frameSentTwiceExecutesOnce : Obligations.FrameSentTwiceExecutesOnce := by
  intro c f s t hf h
  obtain ⟨execute, he⟩ := exec_eq_receiveFrame hf
  have ht : receiveFrame f execute s = t := Host.Outcome.next.inj ((he s).symm.trans h)
  by_cases hlistens : linkListens f.start s = true
  · by_cases hlong : 40 < f.payload.length
    · obtain rfl := (receiveFrame_of_long hlistens hlong execute).symm.trans ht
      rw [he, receiveFrame_of_long (s := storeFrameErr s) hlistens hlong]
      rfl
    have hl := not_lt.mp hlong
    by_cases htoggle : f.toggle = s.link.expected
    · obtain ⟨hp, hq, hstart⟩ := (linkListens_iff f.start s).mp hlistens
      rcases executed_cases hf ⟨hp, hq, hstart, htoggle⟩ hl h with rfl | hquiesce | ⟨hflipped, hstored⟩
      · exact h
      · exact exec_of_not_listening hf ((linkListens_eq_false _ t).mpr (.inr (.inl hquiesce)))
      · exact exec_of_stored hf hl hflipped.symm hstored
    · obtain rfl := (receiveFrame_of_repeat hlistens hl htoggle execute).symm.trans ht
      exact exec_of_stored hf hl htoggle rfl
  · have hignored := exec_of_not_listening hf (Bool.not_eq_true _ ▸ hlistens)
    obtain rfl := Host.Outcome.next.inj (hignored.symm.trans h)
    exact h

end Sys2Proof.Machine
end

section
/-!
PROOFS. The response selector (R8): a response that a holder has ready stays ready, with its request and outcome, until it is
taken, and the output offers the one that has been ready longest.
-/

namespace Sys2Proof.Machine

/-! ## Lists in which one entry changes or leaves -/

theorem find?_set_of_ne {α : Type} {q : α → Bool} {l : List α} {k : Nat} {x y z : α} (hk : l[k]? = some y) (hq : q z = q y)
    (hx : l.find? q = some x) (hne : x ≠ y) : (l.set k z).find? q = some x := by
  induction l generalizing k with
  | nil => cases hx
  | cons w l ih =>
    cases k with
    | zero =>
      obtain rfl : w = y := by simpa using hk
      rw [List.find?_cons] at hx
      rw [List.set_cons_zero, List.find?_cons, hq]
      split at hx
      · exact absurd (Option.some.inj hx).symm hne
      · exact hx
    | succ k =>
      rw [List.find?_cons] at hx
      rw [List.set_cons_succ, List.find?_cons]
      split at hx
      · exact hx
      · exact ih (by simpa using hk) hx

theorem find?_eraseIdx_of_ne {α : Type} {q : α → Bool} {l : List α} {k : Nat} {x y : α} (hk : l[k]? = some y)
    (hx : l.find? q = some x) (hne : x ≠ y) : (l.eraseIdx k).find? q = some x := by
  induction l generalizing k with
  | nil => cases hx
  | cons w l ih =>
    cases k with
    | zero =>
      obtain rfl : w = y := by simpa using hk
      rw [List.find?_cons] at hx
      split at hx
      · exact absurd (Option.some.inj hx).symm hne
      · exact hx
    | succ k =>
      rw [List.find?_cons] at hx
      rw [List.eraseIdx_cons_succ, List.find?_cons]
      split at hx
      · exact hx
      · exact ih (by simpa using hk) hx

theorem find?_append_of_some {α : Type} {q : α → Bool} {l : List α} {x : α} (hx : l.find? q = some x) (l' : List α) :
    (l ++ l').find? q = some x := by
  rw [List.find?_append, hx, Option.some_or]

/-- A map that keeps what is looked for keeps what is found, up to the map. -/
theorem find?_map_of_keeps {α : Type} {q : α → Bool} {g : α → α} (hg : ∀ x, q (g x) = q x) {l : List α} {x : α}
    (hx : l.find? q = some x) : (l.map g).find? q = some (g x) := by
  have hcomp : q ∘ g = q := funext hg
  rw [List.find?_map, hcomp, hx, Option.map_some]

/-! ## Answers that are kept -/

theorem answerOf_waiting (s : State) (p : Pair) :
    answerOf s (.waiting p) =
      ((unmarked s).find? fun e => requestPair e.request = p).bind fun e => e.answering.map fun a => (e.request, a) := by
  unfold answerOf unmarked
  rw [List.find?_map, Option.bind_map]
  rfl

/-- Every response that is ready in `s` is ready in `t`, with its request and its outcome. -/
def AnswersKept (s t : State) : Prop := ∀ h response, answerOf s h = some response → answerOf t h = some response

theorem AnswersKept.refl (s : State) : AnswersKept s s := fun _ _ h => h

theorem AnswersKept.trans {s t u : State} (h : AnswersKept s t) (h' : AnswersKept t u) : AnswersKept s u :=
  fun holder response ha => h' holder response (h holder response ha)

/-- It is enough to look at the taking register, the intake head, the answering wait-list entries but for their marks, and
the host entries in ANSWER. -/
theorem answersKept_intro {s t : State} (htaking : ∀ x, s.hport.taking = some x → t.hport.taking = some x)
    (hintake : ∀ r a, s.hport.intake.head? = some ⟨r, some a⟩ → t.hport.intake.head? = some ⟨r, some a⟩)
    (hwait : ∀ p e, ((unmarked s).find? fun e => requestPair e.request = p) = some e → e.answering ≠ none →
      ((unmarked t).find? fun e => requestPair e.request = p) = some e)
    (hhost : ∀ id e a, (s.tracker.hosts.find? fun e => e.id = id) = some e → e.phase = .answer a →
      ∃ e', (t.tracker.hosts.find? fun e => e.id = id) = some e' ∧ e'.request = e.request ∧ e'.phase = .answer a) :
    AnswersKept s t := by
  rintro holder ⟨r, a⟩ h
  cases holder with
  | taking => exact answerOf_taking_iff.mpr (htaking _ (answerOf_taking_iff.mp h))
  | intakeHead =>
    obtain ⟨rest, hrest⟩ := answerOf_intakeHead_iff.mp h
    have hhead := hintake r a (by rw [hrest]; rfl)
    simp [answerOf, hhead]
  | waiting p =>
    rw [answerOf_waiting, Option.bind_eq_some_iff] at h
    obtain ⟨e, he, ha⟩ := h
    rw [answerOf_waiting, hwait p e he (by rintro hnone; simp [hnone] at ha)]
    exact ha
  | host id =>
    obtain ⟨e, he, rfl, ha⟩ := answerOf_host_iff.mp h
    obtain ⟨e', he', hrequest, ha'⟩ := hhost id e a he ha
    exact answerOf_host_iff.mpr ⟨e', he', hrequest, ha'⟩

/-- Nothing but released marks has changed. -/
theorem answersKept_of_unmarked {s t : State} (htaking : t.hport.taking = s.hport.taking)
    (hintake : t.hport.intake = s.hport.intake) (hwait : unmarked t = unmarked s)
    (hhosts : t.tracker.hosts = s.tracker.hosts) : AnswersKept s t :=
  answersKept_intro (fun _ h => htaking ▸ h) (fun _ _ h => hintake ▸ h) (fun _ _ h _ => hwait ▸ h)
    fun _ e _ h ha => ⟨e, hhosts ▸ h, rfl, ha⟩

/-- A part in which a response is ready holds something (R173). -/
theorem quiesceDone_of_answer {s : State} {h : Holder} {response : Request × Ready} (ha : answerOf s h = some response) :
    quiesceDone s = false := by
  obtain ⟨r, a⟩ := response
  unfold quiesceDone
  cases h with
  | taking => simp [answerOf_taking_iff.mp ha]
  | intakeHead =>
    obtain ⟨rest, hrest⟩ := answerOf_intakeHead_iff.mp ha
    simp [hrest]
  | waiting p =>
    obtain ⟨e, he, -, -⟩ := answerOf_waiting_iff.mp ha
    simp [List.ne_nil_of_mem (List.mem_of_find?_eq_some he)]
  | host id =>
    obtain ⟨e, he, -, -⟩ := answerOf_host_iff.mp ha
    simp [List.ne_nil_of_mem (List.mem_of_find?_eq_some he)]

theorem settleQuiesce_of_answer {s : State} {h : Holder} {response : Request × Ready} (ha : answerOf s h = some response) :
    settleQuiesce s = s := by
  rcases settleQuiesce_cases s with he | ⟨toggle, -, hdone, -⟩
  · exact he
  · rw [quiesceDone_of_answer ha] at hdone
    cases hdone

theorem answersKept_settleQuiesce (s : State) : AnswersKept s (settleQuiesce s) := fun _ _ ha => by
  rw [settleQuiesce_of_answer ha]
  exact ha

theorem answersKept_offerNext (s : State) : AnswersKept s (offerNext s) :=
  answersKept_of_unmarked (by simp) (by simp) (by simp) (by simp)

/-! ## The effects -/

/-- The wait list but for the marks once the entry at place `k` has left (R57). -/
theorem leaveWaitList_unmarked {k : Nat} {e : WaitEntry} {s : State} (h : s.admission.waitList[k]? = some e) :
    unmarked (leaveWaitList k s) = (unmarked s).eraseIdx k := by
  have hbehind : ∀ x : WaitEntry, ({ releaseBehind (requestLine e.request) x with released := false } : WaitEntry) =
      { x with released := false } := fun x => by
    unfold releaseBehind markReleased
    split
    · split <;> rfl
    · rfl
  simp only [unmarked, leaveWaitList, h, List.map_append, List.map_map, Function.comp_def, hbehind,
    List.eraseIdx_eq_take_drop_succ, List.map_take, List.map_drop]

theorem unmarked_getElem? {s : State} {k : Nat} {e : WaitEntry} (h : s.admission.waitList[k]? = some e) :
    (unmarked s)[k]? = some { e with released := false } := by
  rw [unmarked, List.getElem?_map, h, Option.map_some]

/-- A host entry added last (R48). -/
theorem answersKept_dispatch (id : HostId) (region : Option RegionIndex) (journaled : Bool) (r : Request) (s : State) :
    AnswersKept s (dispatch id region journaled r s) := by
  obtain ⟨e, he⟩ : ∃ e, (dispatch id region journaled r s).tracker.hosts = s.tracker.hosts ++ [e] := by
    unfold dispatch
    split
    · exact ⟨_, (addHost_hosts ..).trans (by rw [reserveRecord_tracker])⟩
    · exact ⟨_, addHost_hosts ..⟩
    · exact ⟨_, addHost_hosts ..⟩
  exact answersKept_intro (fun _ h => by simpa using h) (fun _ _ h => by simpa using h) (fun _ _ h _ => by simpa using h)
    fun _ e' _ h ha => ⟨e', by rw [he]; exact find?_append_of_some h _, rfl, ha⟩

/-- A wait-list entry that is not answering is written over by one for the same request. -/
theorem answersKept_set {s t : State} {k : Nat} {e e' : WaitEntry} (hk : s.admission.waitList[k]? = some e)
    (he : e.answering = none) (hrequest : e'.request = e.request) (htaking : t.hport.taking = s.hport.taking)
    (hintake : t.hport.intake = s.hport.intake) (hwait : t.admission.waitList = s.admission.waitList.set k e')
    (hhosts : t.tracker.hosts = s.tracker.hosts) : AnswersKept s t := by
  refine answersKept_intro (fun _ h => htaking ▸ h) (fun _ _ h => hintake ▸ h) (fun p x hx ha => ?_)
    fun _ e _ h ha => ⟨e, hhosts ▸ h, rfl, ha⟩
  have hset : unmarked t = (unmarked s).set k { e' with released := false } := by
    rw [unmarked, hwait, List.map_set]
    rfl
  rw [hset]
  refine find?_set_of_ne (unmarked_getElem? hk) (by simp [hrequest]) hx ?_
  rintro rfl
  exact ha he

theorem answersKept_applyToWaiting {s : State} {k : Nat} {e : WaitEntry} {v : Verdict}
    (hk : s.admission.waitList[k]? = some e) (he : e.answering = none) : AnswersKept s (applyToWaiting k e v (noteFull v s)) := by
  cases v with
  | dispatch id region journaled =>
    have hk' : (dispatch id region journaled e.request s).admission.waitList[k]? = some e := by simpa using hk
    refine (answersKept_dispatch id region journaled e.request s).trans ?_
    simp only [applyToWaiting, noteFull_dispatch]
    refine answersKept_intro (fun _ h => by simpa using h) (fun _ _ h => by simpa using h) (fun p x hx ha => ?_)
      fun _ e _ h ha => ⟨e, by simpa using h, rfl, ha⟩
    rw [leaveWaitList_unmarked hk']
    refine find?_eraseIdx_of_ne (unmarked_getElem? hk') hx ?_
    rintro rfl
    exact ha he
  | park reason region =>
    refine answersKept_set (e' := { e with reason := reason, region := region, released := false }) hk he rfl ?_ ?_ ?_ ?_ <;>
      simp [applyToWaiting]
  | refuse reason region =>
    refine answersKept_set
      (e' := { e with released := false, answering := some ⟨.failed reason, region, s.readySeq⟩ }) hk he rfl ?_ ?_ ?_ ?_ <;>
      simp [applyToWaiting]

/-- The intake head that is examined has no response ready, so its place may change. -/
theorem answersKept_of_head {s t : State} {r : Request} {rest : List IntakeEntry} (hi : s.hport.intake = ⟨r, none⟩ :: rest)
    (htaking : t.hport.taking = s.hport.taking) (hhosts : t.tracker.hosts = s.tracker.hosts)
    (hwait : ∃ l, unmarked t = unmarked s ++ l) : AnswersKept s t := by
  obtain ⟨l, hl⟩ := hwait
  exact answersKept_intro (fun _ h => htaking ▸ h) (fun _ _ h => by simp [hi] at h)
    (fun _ _ h _ => by rw [hl]; exact find?_append_of_some h l) fun _ e _ h ha => ⟨e, hhosts ▸ h, rfl, ha⟩

theorem answersKept_applyToHead {s : State} {r : Request} {rest : List IntakeEntry} {v : Verdict}
    (hi : s.hport.intake = ⟨r, none⟩ :: rest) : AnswersKept s (applyToHead r rest v (noteFull v s)) := by
  cases v with
  | dispatch id region journaled =>
    refine (answersKept_dispatch id region journaled r s).trans ?_
    exact answersKept_of_head (by simpa using hi) rfl rfl ⟨[], by rw [List.append_nil]; rfl⟩
  | park reason region =>
    simp only [applyToHead]
    split
    · exact answersKept_of_head hi (by simp) (by simp) ⟨_, by simp only [unmarked, noteFull_admission, List.map_append]; rfl⟩
    · exact answersKept_of_head hi (by simp) (by simp) ⟨[], by simp [unmarked]⟩
  | refuse reason region =>
    refine answersKept_of_head hi ?_ ?_ ⟨[], ?_⟩ <;> simp [applyToHead, unmarked]

theorem answersKept_examineSubject {s : State} {subject : Subject} (h : nextSubject s = some subject) :
    AnswersKept s (examineSubject subject s) := by
  rcases examineSubject_cases h with ⟨k, e, hk, ha, v, -, he⟩ | ⟨r, rest, hi, v, -, he⟩ <;> rw [he]
  · exact answersKept_applyToWaiting hk ha
  · exact answersKept_applyToHead hi

/-- A request that is taken joins the end of the queue, or enters a free taking register (R2, R4, R5). -/
theorem answersKept_takeRequest {s : State} {r : Request} (hc : canTake s = true) : AnswersKept s (takeRequest r s) := by
  obtain ⟨-, -, hfree, -⟩ := (canTake_iff s).mp hc
  cases hcheck : takingCheck r s with
  | some reason =>
    rw [takeRequest_of_refused hcheck]
    refine AnswersKept.trans ?_ (answersKept_offerNext _)
    exact answersKept_intro (fun _ h => by simp [hfree] at h) (fun _ _ h => h) (fun _ _ h _ => h) fun _ e _ h ha => ⟨e, h, rfl, ha⟩
  | none =>
    rw [takeRequest_of_accepted hcheck]
    exact answersKept_intro (fun _ h => h) (fun _ _ h => by simp [List.head?_append, h]) (fun _ _ h _ => h)
      fun _ e _ h ha => ⟨e, h, rfl, ha⟩

/-- The entry that a WAIT_EXPIRY refuses (R56). -/
def expiredEntry (e : WaitEntry) (s : State) : WaitEntry :=
  { e with released := false, answering := some ⟨.failed .waitTimeout, e.region, s.readySeq⟩ }

theorem expire_waitList {s : State} {k : Nat} {e : WaitEntry} (hk : s.admission.waitList[k]? = some e) :
    (expire k s).admission.waitList = s.admission.waitList.set k (expiredEntry e s) := by
  have hmodify : ∀ f : WaitEntry → WaitEntry, s.admission.waitList.modify k f = s.admission.waitList.set k (f e) := fun f => by
    rw [List.modify_eq_set_getElem?, hk]
    rfl
  exact hmodify _

/-- An entry that expires is not answering (R56). -/
theorem answersKept_expire {s : State} {k : Nat} (hd : expiryDue k s = true) : AnswersKept s (expire k s) := by
  obtain ⟨e, hk, he⟩ : ∃ e, s.admission.waitList[k]? = some e ∧ e.answering = none := by
    simp only [expiryDue, Bool.and_eq_true, Option.any_eq_true] at hd
    obtain ⟨-, e, hk, hnone, -⟩ := hd
    exact ⟨e, hk, Option.isNone_iff_eq_none.mp hnone⟩
  exact answersKept_set (e' := expiredEntry e s) hk he rfl rfl rfl (expire_waitList hk) rfl

/-- The marks of operations change no response (R13). -/
theorem answersKept_hosts_map {s t : State} {g : HostEntry → HostEntry} (htaking : t.hport.taking = s.hport.taking)
    (hintake : t.hport.intake = s.hport.intake) (hwait : unmarked t = unmarked s)
    (hhosts : t.tracker.hosts = s.tracker.hosts.map g) (hid : ∀ e, (g e).id = e.id)
    (hg : ∀ e a, e ∈ s.tracker.hosts → e.phase = .answer a → (g e).request = e.request ∧ (g e).phase = .answer a) :
    AnswersKept s t :=
  answersKept_intro (fun _ h => htaking ▸ h) (fun _ _ h => hintake ▸ h) (fun _ _ h _ => hwait ▸ h) fun id e a h ha =>
    ⟨g e, by rw [hhosts]; exact find?_map_of_keeps (fun x => by rw [hid x]) h, hg e a (List.mem_of_find?_eq_some h) ha⟩

/-- A host entry whose operation is answered is not in ANSWER, and no other has its identity (R60, R61, R62). -/
theorem answersKept_hostAnswered {s : State} {e : HostEntry} (ht : trackerOrderly s) (he : e ∈ s.tracker.hosts)
    (a : MemAnswer) : AnswersKept s (hostAnswered e a s) := by
  have hmoved : ∀ phase op n, (∀ ready, e.phase ≠ .answer ready) → AnswersKept s (entryMoved e phase op n s) := by
    intro phase op n hphase
    refine answersKept_hosts_map (g := fun x => if x.id = e.id then { e with phase := phase, op := op } else x) rfl rfl rfl rfl
      (fun x => ?_) fun x ready hx hready => ?_
    · split
      · exact (‹x.id = e.id›).symm
      · rfl
    · have hne : x.id ≠ e.id := fun hid => hphase ready (host_eq_of_id_eq ht he hx hid ▸ hready)
      simp [hne, hready]
  rcases hostAnswered_cases e a s with ⟨-, hs⟩ | ⟨phase, op, n, ⟨hphase, hs⟩ | ⟨hphase, hs⟩⟩ <;> rw [hs]
  · exact .refl s
  · exact hmoved phase op n fun ready hready => by rcases hphase with h | h <;> simp [h] at hready
  · refine (hmoved phase op n fun ready hready => by simp [hphase] at hready).trans ?_
    exact answersKept_of_unmarked (by simp) (by simp) (by simp) (by simp)

/-- Steps 1 and 2 of a soft reset leave an answering request as it is (R59, R172). -/
theorem answersKept_beginSoftReset (toggle : Bool) (s : State) : AnswersKept s (beginSoftReset toggle s) := by
  refine AnswersKept.trans (AnswersKept.trans ?_ (answersKept_offerNext _)) (answersKept_settleQuiesce _)
  refine answersKept_intro (fun _ h => h) (fun r a h => ?_) (fun p e h ha => ?_) fun _ e _ h ha => ⟨e, h, rfl, ha⟩
  · cases hi : s.hport.intake with
    | nil => simp [hi] at h
    | cons x rest =>
      obtain rfl : x = ⟨r, some a⟩ := by simpa [hi] using h
      simp [resetIntake, resetIntakeEntry]
  · have hreset : ∀ x : WaitEntry, ({ resetWaitEntry s.readySeq x with released := false } : WaitEntry) =
        resetWaitEntry s.readySeq { x with released := false } := fun x => by
      unfold resetWaitEntry
      split <;> rfl
    have hmap : unmarked (bumpReady { s with admission :=
        { s.admission with waitList := s.admission.waitList.map (resetWaitEntry s.readySeq), held := none } }) =
        (unmarked s).map (resetWaitEntry s.readySeq) := by
      simp only [unmarked, bumpReady_admission, List.map_map, Function.comp_def, hreset]
    have hfound := find?_map_of_keeps (g := resetWaitEntry s.readySeq)
      (fun x => by simp only [resetWaitEntry_request]) h
    have hsame : resetWaitEntry s.readySeq e = e := by
      obtain ⟨x, -, rfl⟩ := List.mem_map.mp (List.mem_of_find?_eq_some h)
      exact if_pos (Option.isSome_iff_ne_none.mpr ha)
    rw [hsame, ← hmap] at hfound
    exact hfound

theorem restoreAnswered_unmarked (e : RestoreEntry) (a : MemAnswer) (s : State) :
    unmarked (restoreAnswered e a s) = unmarked s := by
  rcases restoreAnswered_cases e a s with ⟨-, he⟩ | ⟨-, he⟩ | ⟨-, he⟩ | ⟨-, he⟩ | ⟨-, he⟩ <;> rw [he]
  · exact freeAtTail_unmarked 1 _
  · exact (continueRestore_unmarked _).trans (freeAtTail_unmarked 1 _)
  · rfl
  · exact failRestore_unmarked s
  · rfl

theorem restoreAnswered_hosts (e : RestoreEntry) (a : MemAnswer) (s : State) :
    (restoreAnswered e a s).tracker.hosts = s.tracker.hosts := by
  rcases restoreAnswered_cases e a s with ⟨-, he⟩ | ⟨-, he⟩ | ⟨-, he⟩ | ⟨-, he⟩ | ⟨-, he⟩ <;> rw [he] <;> simp

/-- An accepted operation marks the entry that issued it, and no response (R13). -/
theorem answersKept_operationAccepted (s : State) (op : Operation) :
    AnswersKept s { s with mport := { s.mport with presented := none }, tracker := markOutstanding op.entry s.tracker } := by
  unfold markOutstanding
  split
  · rename_i id _
    refine answersKept_hosts_map (g := fun x => if x.id = id then { x with op := .outstanding } else x) rfl rfl rfl rfl
      (fun x => ?_) fun x ready _ hready => ?_
    · split <;> rfl
    · split <;> exact ⟨rfl, hready⟩
  · exact .refl s

/-- Every command but the taking of a response and those of PORn keeps what holders have ready. -/
theorem Effect.answersKept {c : Instr} {s t : State} (he : Effect c s t) (ht : trackerOrderly s) (hc : c ≠ .responseTaken)
    (hassert : c ≠ .pornAssert) (hrelease : c ≠ .pornRelease) : AnswersKept s t := by
  cases he with
  | responseTaken => exact absurd rfl hc
  | pornAssert => exact absurd rfl hassert
  | pornRelease => exact absurd rfl hrelease
  | nothing | link | issueGrant | quietIntervalEnd | journalReady | firstExpiry => exact .refl s
  | executed f status payload _ _ hu =>
    exact answersKept_of_unmarked (congrArg HPort.taking hu.hport_eq) (congrArg HPort.intake hu.hport_eq) hu.unmarked_eq
      hu.hosts_eq
  | softReset f _ => exact answersKept_beginSoftReset f.toggle s
  | softResetStep4 => exact answersKept_settleQuiesce s
  | takeRequest r hcan => exact answersKept_takeRequest hcan
  | examination subject hn => exact (answersKept_examineSubject hn).trans (answersKept_offerNext _)
  | waitExpiry place hd => exact (answersKept_expire hd).trans (answersKept_offerNext _)
  | operationAccepted op => exact answersKept_operationAccepted s op
  | hostAnswer identity a id e _ he =>
    exact ((answersKept_hostAnswered ht (List.mem_of_find?_eq_some he) a).trans (answersKept_offerNext _)).trans
      (answersKept_settleQuiesce _)
  | restoreAnswer identity a e =>
    refine AnswersKept.trans ?_ (answersKept_settleQuiesce _)
    exact answersKept_of_unmarked (by simp) (by simp) (restoreAnswered_unmarked e a _) (restoreAnswered_hosts e a _)
  | secondExpiry k target _ _ hk =>
    exact answersKept_of_unmarked (by simp) (by simp) (by simp) (by simp)

/-! ## The output -/

theorem offerNext_of_offered {s : State} {h : Holder} (ho : s.hport.offered = some h) : offerNext s = s := by
  simp only [offerNext, ho]

theorem offerNext_offered {s : State} {h : Holder} (ho : s.hport.offered = some h) :
    (offerNext s).hport.offered = some h := by
  rw [offerNext_of_offered ho, ho]

/-- After step 4 no holder has a response ready (R173). -/
theorem answerOf_softResetValues (toggle : Bool) (s : State) (h : Holder) : answerOf (softResetValues toggle s) h = none := by
  cases h <;> rfl

theorem settleQuiesce_offered {s : State} {h : Holder} {response : Request × Ready} (ho : s.hport.offered = some h)
    (ha : answerOf (settleQuiesce s) h = some response) : (settleQuiesce s).hport.offered = some h := by
  rcases settleQuiesce_cases s with he | ⟨toggle, -, -, he⟩ <;> rw [he] at ha ⊢
  · exact ho
  · rw [answerOf_softResetValues] at ha
    cases ha

theorem takeRequest_offered {s : State} {h : Holder} (ho : s.hport.offered = some h) (r : Request) :
    (takeRequest r s).hport.offered = some h := by
  unfold takeRequest
  split
  · exact offerNext_offered ho
  · exact ho

theorem examineSubject_offered {subject : Subject} {s : State} (hn : nextSubject s = some subject) :
    (examineSubject subject s).hport.offered = s.hport.offered := by
  rcases examineSubject_cases hn with ⟨k, e, -, -, v, -, he⟩ | ⟨r, rest, -, v, -, he⟩ <;> rw [he]
  · cases v <;> simp [applyToWaiting]
  · cases v with
    | park reason region =>
      simp only [applyToHead]
      split <;> simp
    | _ => simp [applyToHead]

/-- What is offered stays offered while it is ready, but for the taking and PORn (R8). -/
theorem Effect.offered_kept {c : Instr} {s t : State} (he : Effect c s t) {h : Holder} {response : Request × Ready}
    (ho : s.hport.offered = some h) (ha : answerOf t h = some response) (hc : c ≠ .responseTaken)
    (hassert : c ≠ .pornAssert) (hrelease : c ≠ .pornRelease) : t.hport.offered = some h := by
  cases he with
  | responseTaken => exact absurd rfl hc
  | pornAssert => exact absurd rfl hassert
  | pornRelease => exact absurd rfl hrelease
  | nothing | link | issueGrant | quietIntervalEnd | journalReady | firstExpiry | operationAccepted => exact ho
  | executed f status payload _ _ hu => exact (congrArg HPort.offered hu.hport_eq).trans ho
  | softReset f _ => exact settleQuiesce_offered (offerNext_offered ho) ha
  | softResetStep4 => exact settleQuiesce_offered ho ha
  | takeRequest r => exact takeRequest_offered ho r
  | examination subject hn => exact offerNext_offered ((examineSubject_offered hn).trans ho)
  | waitExpiry place => exact offerNext_offered ho
  | hostAnswer identity a id e => exact settleQuiesce_offered (offerNext_offered (by simpa using ho)) ha
  | restoreAnswer identity a e => exact settleQuiesce_offered (by simpa using ho) ha
  | secondExpiry k => simpa using ho

/-! ## The response that is offered next -/

/-- What is ready depends on the holders alone. -/
theorem readyHolders_congr {s t : State} (htaking : t.hport.taking = s.hport.taking) (hintake : t.hport.intake = s.hport.intake)
    (hwait : t.admission.waitList = s.admission.waitList) (hhosts : t.tracker.hosts = s.tracker.hosts) :
    readyHolders t = readyHolders s := by
  rw [readyHolders, readyHolders, answerOf_congr htaking hintake hwait hhosts, holders, holders, hwait, hhosts]

theorem mem_readyHolders {s : State} {h : Holder} {since : Nat} (hm : (h, since) ∈ readyHolders s) :
    ∃ r a, answerOf s h = some (r, a) ∧ a.since = since := by
  obtain ⟨h', -, hx⟩ := List.mem_filterMap.mp hm
  obtain ⟨⟨r, a⟩, ha, heq⟩ := Option.map_eq_some_iff.mp hx
  obtain ⟨rfl, rfl⟩ := Prod.mk.inj heq
  exact ⟨r, a, ha, rfl⟩

/-- A free output takes a response that has been ready longest (R8). -/
theorem offerNext_longest {s : State} (ho : s.hport.offered = none) {h : Holder} {since : Nat}
    (hm : (h, since) ∈ readyHolders (offerNext s)) :
    ∃ h' r a, (offerNext s).hport.offered = some h' ∧ answerOf (offerNext s) h' = some (r, a) ∧ a.since ≤ since := by
  rw [readyHolders_congr (s := s) (by simp) (by simp) (by simp) (by simp)] at hm
  rw [answerOf_congr (s := s) (by simp) (by simp) (by simp) (by simp)]
  rcases offerNext_cases s with ⟨-, hoffered | hnone⟩ | ⟨-, h', hlongest, n, he⟩
  · exact absurd ho hoffered
  · exact absurd hnone (longestReady_ne_nil (List.ne_nil_of_mem hm))
  · obtain ⟨since', hready, hle⟩ := longestReady_le hlongest
    obtain ⟨r, a, ha, rfl⟩ := mem_readyHolders hready
    exact ⟨h', r, a, by rw [he], ha, hle h since hm⟩

theorem afterTaking_offered (h : Holder) (r : Request) (a : Ready) (s : State) :
    (afterTaking h r a s).hport.offered = none := by
  cases h <;> simp [afterTaking, giveUp]

/-- The taking of the response offered (R8). -/
theorem exec_responseTaken {s : State} {h : Holder} {r : Request} {a : Ready} (hp : s.porn = true)
    (ho : s.hport.offered = some h) (ha : answerOf s h = some (r, a)) :
    exec .responseTaken s = .next (settleQuiesce (offerNext (afterTaking h r a s))) := by
  refine (congrArg Host.Outcome.next (if_pos hp)).trans ?_
  simp only [ho, ha]
  rfl

/-- Settles O25: the next offer is one of the longest ready; and no effect but the taking and PORn takes a response from its
holder, or the output from the response. -/
theorem selectorOffersLongestReady : Obligations.SelectorOffersLongestReady := by
  refine ⟨fun s t hp hoffered h holder since hm => ?_, fun c s t holder response ht ho ha h hc hassert hrelease => ?_⟩
  · obtain ⟨h₀, r, a, ho, ha⟩ : ∃ h₀ r a, s.hport.offered = some h₀ ∧ answerOf s h₀ = some (r, a) := by
      obtain ⟨⟨r, a⟩, hresponse⟩ := Option.ne_none_iff_exists'.mp hoffered
      obtain ⟨h₀, ho, ha⟩ := Option.bind_eq_some_iff.mp hresponse
      exact ⟨h₀, r, a, ho, ha⟩
    obtain rfl := Host.Outcome.next.inj ((exec_responseTaken hp ho ha).symm.trans h)
    rcases settleQuiesce_cases (offerNext (afterTaking h₀ r a s)) with he | ⟨toggle, -, -, he⟩ <;> rw [he] at hm ⊢
    · exact offerNext_longest (afterTaking_offered h₀ r a s) hm
    · obtain ⟨r', a', ha', -⟩ := mem_readyHolders hm
      rw [answerOf_softResetValues] at ha'
      cases ha'
  · have he := effect_of_exec h
    have hkept := he.answersKept ht hc hassert hrelease holder response ha
    exact ⟨he.offered_kept ho hkept hc hassert hrelease, hkept⟩

end Sys2Proof.Machine
end

section
/-!
PROOFS. The lines that a rollback or a failed engine holds (R44, R45), and the invariants of the state after reset.
-/

namespace Sys2Proof.Machine

/-! ## Lines that are held -/

/-- A host entry that an examination adds is for a request that checks 4 and 5 passed on (R42, R44, R45). -/
theorem examineSubject_new_host {s : State} {subject : Subject} (hn : nextSubject s = some subject) {e : HostEntry}
    (he : e ∈ (examineSubject subject s).tracker.hosts) :
    e ∈ s.tracker.hosts ∨ ∃ region, passesEngine s e.request region := by
  have hdispatch : ∀ {r : Request} {earlier : List WaitEntry} {id : HostId} {region : Option RegionIndex} {journaled : Bool},
      examine s r earlier = .dispatch id region journaled → e ∈ (dispatch id region journaled r s).tracker.hosts →
      e ∈ s.tracker.hosts ∨ ∃ region, passesEngine s e.request region := by
    intro r earlier id region journaled hv hmem
    obtain ⟨⟨-, hpasses, -⟩, -⟩ := dispatchedBy_of_examine hv
    rcases dispatch_cases hv s with hs | ⟨i, kind, -, hs, -⟩ <;> rw [hs, addHost_hosts] at hmem
    · rcases List.mem_append.mp hmem with hold | hnew
      · exact .inl hold
      · obtain rfl := List.mem_singleton.mp hnew
        exact .inr ⟨region, hpasses⟩
    · rw [reserveRecord_tracker] at hmem
      rcases List.mem_append.mp hmem with hold | hnew
      · exact .inl hold
      · obtain rfl := List.mem_singleton.mp hnew
        exact .inr ⟨region, hpasses⟩
  rcases examineSubject_cases hn with ⟨k, x, -, -, v, hv, hs⟩ | ⟨r, rest, -, v, hv, hs⟩ <;> rw [hs] at he
  · cases v with
    | dispatch id region journaled => exact hdispatch hv.symm (by simpa [applyToWaiting] using he)
    | park reason region => exact .inl (by simpa [applyToWaiting] using he)
    | refuse reason region => exact .inl (by simpa [applyToWaiting] using he)
  · cases v with
    | dispatch id region journaled => exact hdispatch hv.symm (by simpa [applyToHead] using he)
    | park reason region =>
      refine .inl ?_
      simp only [applyToHead] at he
      split at he <;> simpa using he
    | refuse reason region => exact .inl (by simpa [applyToHead] using he)

/-- Settles O26: checks 4 and 5 of the examination that dispatches. -/
theorem rollbackAndFaultLockHoldLines : Obligations.RollbackAndFaultLockHoldLines := by
  intro s t e h he hnew
  have hpasses : ∃ region, passesEngine s e.request region := by
    cases effect_of_exec h with
    | nothing => exact absurd he hnew
    | link => exact absurd he hnew
    | executed f _ _ hf => cases hf
    | examination subject hn =>
      rw [offerNext_tracker] at he
      exact (examineSubject_new_host hn he).resolve_left hnew
  obtain ⟨region, hpasses⟩ := hpasses
  unfold passesEngine at hpasses
  refine ⟨fun hfailed => ?_, fun hbusy => ?_⟩
  · simp only [hfailed] at hpasses
    exact hpasses.1
  · rcases hbusy with hstate | hstate <;> simp only [hstate] at hpasses <;> exact hpasses.1

/-! ## The state after reset -/

theorem marksAgree_reset : MarksAgree State.reset := .of_empty rfl rfl rfl rfl rfl

/-- Settles O8: the reset state holds nothing, and its parameters are in range. -/
theorem resetIsSound : Obligations.ResetIsSound := by
  have hcapacity : withinCapacity State.reset := by
    refine ⟨?_, ?_, ?_, ?_, ?_, nofun⟩ <;> decide
  refine ⟨hcapacity, by simp [headIsLive, State.reset], ⟨⟨.nil, .nil⟩, .nil, .refl _⟩, .nil,
    (marksConsistent_iff _).mpr ⟨hcapacity, marksAgree_reset⟩,
    ?_, ((tablesSound_iff _).mp tablesSound_reset).1, ((tablesSound_iff _).mp tablesSound_reset).2, ?_⟩
  · simp [timerSound, paramsInRange, timerAsDescribed, timerInRange, timerSetting, State.reset, depth]
  · simp [drainTested, State.reset]

end Sys2Proof.Machine
end

section
/-!
PROOFS. What an examination does, outcome by outcome, for the intake head and for a released wait-list entry; and the expiry of
a wait-list entry (R40 to R58, R68, R83).
-/

namespace Sys2Proof.Machine

/-! ## The parts of an examination -/

theorem exec_examination {s : State} {subject : Subject} (h : nextSubject s = some subject) :
    exec .examination s = .next (offerNext (examineSubject subject s)) := by
  simp only [exec, execExamination, h]

theorem examineSubject_head {s : State} {r : Request} {rest : List IntakeEntry} {v : Verdict}
    (hi : s.hport.intake = ⟨r, none⟩ :: rest) (hv : examine s r s.admission.waitList = v) :
    examineSubject .head s = applyToHead r rest v (noteFull v s) := by
  simp only [examineSubject, hi, hv]

theorem examineSubject_waiting {s : State} {k : Nat} {e : WaitEntry} {v : Verdict}
    (hk : s.admission.waitList[k]? = some e) (hv : examine s e.request (s.admission.waitList.take k) = v) :
    examineSubject (.waiting k) s = applyToWaiting k e v (noteFull v s) := by
  simp only [examineSubject, hk, hv]

/-- JFULL is set by a parking for the full journal (R83). -/
theorem noteFull_park (reason : ParkReason) (region : Option RegionIndex) (s : State) :
    noteFull (.park reason region) s =
      { s with events :=
        { s.events with flags := if reason = .jfull then s.events.flags ||| 0x010#9 else s.events.flags } } := by
  cases reason <;> rfl

/-- JFULL is set by a refusal for the full journal (R83). -/
theorem noteFull_refuse (reason : Reason) (region : Option RegionIndex) (s : State) :
    noteFull (.refuse reason region) s =
      { s with events :=
        { s.events with flags := if reason = .journalFull then s.events.flags ||| 0x010#9 else s.events.flags } } := by
  cases reason <;> rfl

/-- A dispatch without a record (R48). -/
theorem dispatch_plain (id : HostId) (region : Option RegionIndex) (r : Request) (s : State) :
    dispatch id region false r s =
      { s with tracker := { s.tracker with hosts := s.tracker.hosts ++ [newEntry s id r region false] } } := by
  obtain ⟨kind, _, _, _, _, _, _⟩ := r
  cases kind <;> rfl

/-- A dispatch with a record (R48, R68). -/
theorem dispatch_journaled (id : HostId) (i : RegionIndex) (r : Request) (s : State) :
    dispatch id (some i) true r s =
      { withReservation (newRecord s r i) s with
        tracker := { s.tracker with hosts := s.tracker.hosts ++ [newEntry s id r (some i) true] } } := by
  rw [dispatch, reserveRecord_eq]
  rfl

/-- The examination that dispatches without needing a record. -/
theorem examine_plain {s : State} {r : Request} {earlier : List WaitEntry} {id : HostId} {region : Option RegionIndex}
    (h : dispatchedBy s r earlier id region) (hneeds : ¬needsNewRecord s r region) :
    examine s r earlier = .dispatch id region false := by
  obtain ⟨needs, hiff, he⟩ := examine_of_dispatchedBy h
  rw [he, Bool.eq_false_iff.mpr fun ht => hneeds (hiff.mp ht)]

/-- The examination that dispatches and needs a record. -/
theorem examine_journaled {s : State} {r : Request} {earlier : List WaitEntry} {id : HostId} {region : Option RegionIndex}
    (h : dispatchedBy s r earlier id region) (hneeds : needsNewRecord s r region) :
    examine s r earlier = .dispatch id region true := by
  obtain ⟨needs, hiff, he⟩ := examine_of_dispatchedBy h
  rw [he, hiff.mpr hneeds]

/-! ## The intake head -/

theorem exec_examination_head {s : State} {r : Request} {rest : List IntakeEntry} {v : Verdict} (h : headIsNext s r rest)
    (hv : examine s r s.admission.waitList = v) :
    exec .examination s = .next (offerNext (applyToHead r rest v (noteFull v s))) := by
  rw [exec_examination (nextSubject_head h)]
  obtain ⟨-, -, hi, -⟩ := h
  rw [examineSubject_head hi hv]

/-- Settles O30: the verdict is a dispatch, plain or with a reservation. -/
theorem headIsDispatched : Obligations.HeadIsDispatched := by
  refine fun s r rest id region hnext h => ⟨fun hneeds => ?_, fun i hi hneeds => ?_⟩
  · rw [exec_examination_head hnext (examine_plain h hneeds)]
    simp only [applyToHead, noteFull_dispatch, dispatch_plain]
  · subst hi
    rw [exec_examination_head hnext (examine_journaled h hneeds)]
    simp only [applyToHead, noteFull_dispatch, dispatch_journaled]
    rfl

/-- Settles O31: the verdict is a parking or a refusal, and `noteFull` sets JFULL. -/
theorem headParksOrIsRefused : Obligations.HeadParksOrIsRefused := by
  refine ⟨fun s r rest reason region hnext h => ?_, fun s r rest reason region hnext h => ?_⟩
  · rw [exec_examination_head hnext (examine_of_parkedBy h), noteFull_park]
    simp only [applyToHead]
    rfl
  · rw [exec_examination_head hnext (examine_of_refusedBy h), noteFull_refuse]
    rfl

/-! ## A released wait-list entry -/

theorem exec_examination_waiting {s : State} {k : Nat} {e : WaitEntry} {v : Verdict} (h : releasedIsNext s k e)
    (hv : examine s e.request (s.admission.waitList.take k) = v) :
    exec .examination s = .next (offerNext (applyToWaiting k e v (noteFull v s))) := by
  rw [exec_examination (nextSubject_waiting h)]
  obtain ⟨-, hk, -, -, -⟩ := h
  rw [examineSubject_waiting hk hv]

/-- Settles O32: the verdict on the earliest released entry. -/
theorem releasedEntryIsExaminedFirst : Obligations.ReleasedEntryIsExaminedFirst := by
  intro s k e hnext
  have hk : s.admission.waitList[k]? = some e := by
    obtain ⟨-, hk, -⟩ := hnext
    exact hk
  refine ⟨fun reason region h => ?_, fun reason region h => ?_, fun id region h => ⟨fun hneeds => ?_, fun i hi hneeds => ?_⟩⟩
  · rw [exec_examination_waiting hnext (examine_of_parkedBy h), noteFull_park]
    rfl
  · rw [exec_examination_waiting hnext (examine_of_refusedBy h), noteFull_refuse]
    rfl
  · rw [exec_examination_waiting hnext (examine_plain h hneeds), noteFull_dispatch, applyToWaiting, dispatch_plain]
    exact congrArg (fun u => Host.Outcome.next (offerNext u)) (leaveWaitList_eq (e := e) (by exact hk))
  · subst hi
    rw [exec_examination_waiting hnext (examine_journaled h hneeds), noteFull_dispatch, applyToWaiting, dispatch_journaled]
    exact congrArg (fun u => Host.Outcome.next (offerNext u)) (leaveWaitList_eq (e := e) (by exact hk))

/-! ## Expiry -/

/-- The whole part once the entry at place `k` has expired (R54, R56). -/
theorem expire_eq {s : State} {k : Nat} {e : WaitEntry} (hk : s.admission.waitList[k]? = some e) :
    expire k s =
      { s with
        admission := { s.admission with waitList := s.admission.waitList.set k (expiredEntry e s) }
        events := { s.events with flags := s.events.flags ||| 0x004#9 }
        readySeq := s.readySeq + 1 } := by
  rw [← expire_waitList hk]
  rfl

/-- Settles O33: an entry is due at its expiry and not before, and never while it is answering. -/
theorem expiredEntryIsRefused : Obligations.ExpiredEntryIsRefused := by
  intro s place e hp hk
  refine ⟨fun h => ?_, fun time ha he hle => ?_⟩
  · have hdue : expiryDue place.val s = false := by
      simp only [expiryDue, hp, hk, Option.any_some, Bool.true_and]
      rcases h with ha | hbefore
      · simp [ha]
      · cases he : e.expiry with
        | none => simp
        | some time => simp [hbefore time he]
    exact congrArg Host.Outcome.next (if_neg (by simp [hdue]))
  · have hdue : expiryDue place.val s = true := by simp [expiryDue, hp, hk, ha, he, hle]
    refine (congrArg Host.Outcome.next (if_pos hdue)).trans ?_
    rw [expire_eq hk]
    rfl

end Sys2Proof.Machine
end

section
/-!
PROOFS. The taking of a response: what each holder gives up, and that the drain test after a retirement does not look at the
outstanding set or at the refusal the stage is stalled on (R6, R8, R9, R53, R57, R63, R115, R152, R153).
-/

namespace Sys2Proof.Machine

/-! ## What the restore engine does not look at -/

/-- The part with this outstanding set, and with the admission stage stalled on this. -/
def withOutstanding (pairs : List Pair) (stalledOn : Option Holder) (s : State) : State :=
  { s with
    hport := { s.hport with outstanding := pairs }
    admission := { s.admission with stalledOn := stalledOn } }

section
variable (pairs : List Pair) (stalledOn : Option Holder)

@[simp] theorem withOutstanding_journal (s : State) : (withOutstanding pairs stalledOn s).journal = s.journal := rfl

@[simp] theorem withOutstanding_engine (s : State) : (withOutstanding pairs stalledOn s).engine = s.engine := rfl

theorem release_withOutstanding (c : Clearing) (s : State) :
    release c (withOutstanding pairs stalledOn s) = withOutstanding pairs stalledOn (release c s) := rfl

theorem signalFall_withOutstanding (before : Nat) (s : State) :
    signalFall before (withOutstanding pairs stalledOn s) = withOutstanding pairs stalledOn (signalFall before s) := by
  unfold signalFall
  rw [withOutstanding_journal]
  split <;> rfl

theorem freeAtTail_withOutstanding (k : Nat) (s : State) :
    freeAtTail k (withOutstanding pairs stalledOn s) = withOutstanding pairs stalledOn (freeAtTail k s) :=
  signalFall_withOutstanding pairs stalledOn _
    { s with
      journal := { s.journal with ring := s.journal.ring.take (s.journal.ring.length - k) }
      stack := { s.stack with checkpoints := s.stack.checkpoints.map fun c => { c with distance := c.distance - k } } }

theorem completeRestore_withOutstanding (s : State) :
    completeRestore (withOutstanding pairs stalledOn s) = withOutstanding pairs stalledOn (completeRestore s) := by
  rw [completeRestore_eq, completeRestore_eq]
  rfl

theorem handRestore_withOutstanding (s : State) :
    handRestore (withOutstanding pairs stalledOn s) = withOutstanding pairs stalledOn (handRestore s) := by
  unfold handRestore
  rw [withOutstanding_journal]
  split
  · split <;> rfl
  · rfl
  · rfl

theorem continueRestore_withOutstanding (s : State) :
    continueRestore (withOutstanding pairs stalledOn s) = withOutstanding pairs stalledOn (continueRestore s) := by
  have hcheckpoints : (withOutstanding pairs stalledOn s).stack.checkpoints = s.stack.checkpoints := rfl
  unfold continueRestore
  rw [hcheckpoints, withOutstanding_journal]
  split
  · rfl
  · dsimp only
    rw [freeAtTail_withOutstanding, completeRestore_withOutstanding, handRestore_withOutstanding]
    split <;> rfl

theorem drainTest_withOutstanding (s : State) :
    drainTest (withOutstanding pairs stalledOn s) = withOutstanding pairs stalledOn (drainTest s) := by
  have hcondition : drainHolds (withOutstanding pairs stalledOn s) = drainHolds s := rfl
  unfold drainTest
  rw [hcondition, withOutstanding_engine]
  split
  · exact continueRestore_withOutstanding pairs stalledOn { s with engine := { s.engine with state := .restore } }
  · rfl

end

/-- The drain test leaves the stall of the admission stage. -/
theorem drainTest_stalledOn (s : State) : (drainTest s).admission.stalledOn = s.admission.stalledOn :=
  congrArg (fun u => u.admission.stalledOn) (drainTest_withOutstanding s.hport.outstanding s.admission.stalledOn s)

/-! ## The event unit, the stage and the releases -/

/-- What the event unit records of a response that is taken (R152, R153). -/
theorem captureResponse_eq (epoch : Epoch) (r : Request) (a : Ready) (s : State) :
    captureResponse epoch r a s =
      { s with
        events :=
          match a.result, s.events.capture with
          | .okay _, _ => s.events
          | .failed reason, none =>
            { flags := s.events.flags ||| 0x002#9
              capture :=
                some
                  { reason := reason, initiator := r.initiator, tag := r.tag, kind := r.kind, address := r.address
                    region := a.region, epoch := epoch, further := 0 } }
          | .failed _, some c => { s.events with capture := some { c with further := min 255 (c.further + 1) } } } := by
  unfold captureResponse
  cases a.result with
  | okay words => rfl
  | failed reason => cases s.events.capture <;> rfl

theorem unstall_eq (h : Holder) (s : State) :
    unstall h s =
      { s with admission :=
        { s.admission with stalledOn := if s.admission.stalledOn = some h then none else s.admission.stalledOn } } := by
  unfold unstall
  split <;> rfl

theorem unstall_dropPair (h : Holder) (p : Pair) (s : State) :
    unstall h (dropPair p s) =
      withOutstanding (s.hport.outstanding.erase p)
        (if s.admission.stalledOn = some h then none else s.admission.stalledOn) s := by
  rw [unstall_eq]
  rfl

theorem clears_retired (line : LineAddr) :
    clears (.retired line) = fun reason _ l => reason == .slot || reason == .line && l == line := by
  funext reason region l
  cases reason <;> by_cases hl : l = line <;> simp [clears, hl]

/-- The drain test may come after the pair and the stall are gone (R6, R9, R63, R115). -/
theorem afterTaking_host (id : HostId) (r : Request) (a : Ready) (s : State) :
    afterTaking (.host id) r a s =
      drainTest (withOutstanding (s.hport.outstanding.erase (requestPair r))
        (if s.admission.stalledOn = some (.host id) then none else s.admission.stalledOn)
        (release (.retired (requestLine r))
          { captureResponse (currentEpoch s) r a { s with hport := { s.hport with offered := none } } with
            tracker := { s.tracker with hosts := s.tracker.hosts.filter fun e => e.id ≠ id } })) := by
  rw [afterTaking, giveUp, unstall_dropPair, retireHost, drainTest_withOutstanding, drainTest_hport, drainTest_stalledOn,
    captureResponse_eq]
  rfl

/-- Settles O29, holder by holder. -/
theorem takenResponseFreesItsHolder : Obligations.TakenResponseFreesItsHolder := by
  intro s
  refine ⟨fun hnone => ?_, fun h r a left hp ho ha hleft => ?_⟩
  · refine congrArg Host.Outcome.next ?_
    unfold whilePowered
    split
    · dsimp only
      split
      · rfl
      · rename_i h ho
        have ha : answerOf s h = none := by simpa [offeredAnswer, ho] using hnone
        rw [ha]
    · rfl
  · subst hleft
    rw [exec_responseTaken hp ho ha]
    refine congrArg (fun u => Host.Outcome.next (settleQuiesce (offerNext u))) ?_
    cases h with
    | taking =>
      rw [afterTaking, unstall_eq, captureResponse_eq]
      rfl
    | intakeHead =>
      rw [afterTaking, unstall_eq, captureResponse_eq, giveUp, List.drop_one]
      rfl
    | waiting p =>
      obtain ⟨e, he, rfl, -⟩ := answerOf_waiting_iff.mp ha
      obtain ⟨hk, -⟩ := waitList_findIdx he
      rw [afterTaking, unstall_eq, captureResponse_eq, giveUp, leaveWaitList_eq (e := e) (by exact hk)]
      rfl
    | host id =>
      rw [afterTaking_host, captureResponse_eq, release_eq, clears_retired]
      rfl

end Sys2Proof.Machine
end

section
/-!
PROOFS. The M-port: what the issue arbiter grants, and what an answer does to the host entry it names and to the record of a
PRE-READ (R12 to R15, R61, R62, R70, R71).
-/

namespace Sys2Proof.Machine

/-! ## Grants and acceptances -/

/-- An entry of the tracker is ready to issue (R13). -/
def readyToIssue (s : State) : Prop :=
  (∃ e, s.tracker.restore = some e ∧ e.op = .toIssue) ∨ ∃ e ∈ s.tracker.hosts, e.op = .toIssue

theorem arbiterChoice_of_restore {s : State} {e : RestoreEntry} (he : s.tracker.restore = some e)
    (hop : e.op = .toIssue) : arbiterChoice s = some (restoreOperation e) := by
  rw [arbiterChoice, he]
  exact if_pos hop

theorem arbiterChoice_of_hosts {s : State} (hrestore : ∀ e, s.tracker.restore = some e → e.op ≠ .toIssue) :
    arbiterChoice s = (s.tracker.hosts.find? fun e => e.op = .toIssue).bind hostOperation := by
  unfold arbiterChoice
  split
  · rename_i e he
    exact if_neg (hrestore e he)
  · rfl

theorem arbiterChoice_of_first {s : State} {before after : List HostEntry} {e : HostEntry}
    (hrestore : ∀ e, s.tracker.restore = some e → e.op ≠ .toIssue) (hhosts : s.tracker.hosts = before ++ e :: after)
    (hbefore : ∀ x ∈ before, x.op ≠ .toIssue) (hop : e.op = .toIssue) : arbiterChoice s = hostOperation e := by
  have hfirst : s.tracker.hosts.find? (fun e => e.op = .toIssue) = some e :=
    List.find?_eq_some_iff_append.mpr
      ⟨decide_eq_true hop, before, after, hhosts, fun x hx => by simpa using hbefore x hx⟩
  rw [arbiterChoice_of_hosts hrestore, hfirst]
  rfl

theorem arbiterChoice_of_not_ready {s : State} (h : ¬readyToIssue s) : arbiterChoice s = none := by
  have hrestore : ∀ e, s.tracker.restore = some e → e.op ≠ .toIssue := fun e he hop => h (.inl ⟨e, he, hop⟩)
  have hhosts : s.tracker.hosts.find? (fun e => e.op = .toIssue) = none :=
    List.find?_eq_none.mpr fun e he hop => h (.inr ⟨e, he, by simpa using hop⟩)
  rw [arbiterChoice_of_hosts hrestore, hhosts]
  rfl

theorem exec_issueGrant {s : State} (hporn : s.porn = true) (hpresented : s.mport.presented = none)
    (hquiet : s.mport.quietSince = none) :
    exec .issueGrant s = .next { s with mport := { s.mport with presented := arbiterChoice s } } := by
  change execIssueGrant s = _
  rw [execIssueGrant, whilePowered, if_pos hporn, hpresented, hquiet]
  rfl

theorem exec_issueGrant_of_busy {s : State} (h : s.mport.presented ≠ none ∨ s.mport.quietSince ≠ none) :
    exec .issueGrant s = .next s := by
  have hguard : ¬(s.mport.presented.isNone && s.mport.quietSince.isNone) = true := by
    simp only [Bool.and_eq_true, Option.isNone_iff_eq_none, not_and_or]
    exact h
  change execIssueGrant s = _
  rw [execIssueGrant, whilePowered, if_neg hguard, ite_self]

theorem exec_issueGrant_of_not_ready {s : State} (h : ¬readyToIssue s) : exec .issueGrant s = .next s := by
  by_cases hbusy : s.mport.presented ≠ none ∨ s.mport.quietSince ≠ none
  · exact exec_issueGrant_of_busy hbusy
  · obtain ⟨hpresented, hquiet⟩ : s.mport.presented = none ∧ s.mport.quietSince = none := by simpa using hbusy
    cases hporn : s.porn with
    | false => exact exec_of_porn_low hporn (by decide)
    | true =>
      rw [exec_issueGrant hporn hpresented hquiet, arbiterChoice_of_not_ready h, ← hpresented]

theorem exec_operationAccepted {s : State} {op : Operation} (hporn : s.porn = true) (hop : s.mport.presented = some op) :
    exec .operationAccepted s =
      .next { s with mport := { s.mport with presented := none }, tracker := markOutstanding op.entry s.tracker } := by
  change execOperationAccepted s = _
  rw [execOperationAccepted, whilePowered, if_pos hporn, hop]

theorem exec_operationAccepted_of_none {s : State} (h : s.mport.presented = none) :
    exec .operationAccepted s = .next s := by
  change execOperationAccepted s = _
  rw [execOperationAccepted, whilePowered, h, ite_self]

/-- Settles O34: the arbiter's order, and the operation of each phase. -/
theorem operationsAreGrantedAndAccepted : Obligations.OperationsAreGrantedAndAccepted := by
  refine ⟨fun s => ⟨fun h => ?_, fun hporn hpresented hquiet => ⟨fun e he hop => ?_, ?_⟩⟩,
    fun s h => exec_operationAccepted_of_none h, fun s op hporn hop => ⟨fun id hid => ?_, fun hentry => ?_⟩⟩
  case refine_1 =>
    rcases h with hpresented | hquiet | ⟨hrestore, hhosts⟩
    · exact exec_issueGrant_of_busy (.inl hpresented)
    · exact exec_issueGrant_of_busy (.inr hquiet)
    · refine exec_issueGrant_of_not_ready fun hready => ?_
      rcases hready with ⟨e, he, hop⟩ | ⟨e, he, hop⟩
      · exact hrestore e he hop
      · exact hhosts e he hop
  case refine_2 =>
    rw [exec_issueGrant hporn hpresented hquiet, arbiterChoice_of_restore he hop]
    rfl
  case refine_3 =>
    intro hrestore before after e hhosts hbefore hop
    rw [exec_issueGrant hporn hpresented hquiet, arbiterChoice_of_first hrestore hhosts hbefore hop]
    refine ⟨fun hphase hkind => ?_, fun h => ?_, fun hphase => ?_⟩
    · simp only [hostOperation, hphase, hkind]
      rfl
    · rcases h with ⟨hphase, hkind⟩ | hphase
      · simp only [hostOperation, hphase, hkind]
        rfl
      · simp only [hostOperation, hphase]
        rfl
    · simp only [hostOperation, hphase]
  case refine_4 => rw [exec_operationAccepted hporn hop, hid, markOutstanding]
  case refine_5 => rw [exec_operationAccepted hporn hop, hentry, markOutstanding]

/-! ## Answers to host entries -/

/-- Step 4 of a soft reset waits while a host entry is in use (R173). -/
theorem settleQuiesce_of_hosts {s : State} (h : s.tracker.hosts ≠ []) : settleQuiesce s = s := by
  rcases settleQuiesce_cases s with heq | ⟨toggle, htoggle, hdone, -⟩
  · exact heq
  · simp only [quiesceDone, Bool.and_eq_true, List.isEmpty_iff] at hdone
    obtain ⟨⟨-, hhosts⟩, -⟩ := hdone
    exact absurd hhosts h

/-- The part once the host entry of this identity has become `after` and the ready responses are numbered on to `seq`. -/
def withHost (id : HostId) (after : HostEntry) (seq : Nat) (s : State) : State :=
  { s with
    tracker := { s.tracker with hosts := s.tracker.hosts.map fun x => if x.id = id then after else x }
    readySeq := seq }

theorem withHost_hosts_ne_nil {s : State} {e : HostEntry} (id : HostId) (after : HostEntry) (seq : Nat)
    (he : e ∈ s.tracker.hosts) : (withHost id after seq s).tracker.hosts ≠ [] := by
  have hne : s.tracker.hosts ≠ [] := List.ne_nil_of_mem he
  simpa [withHost] using hne

/-- The host entry that an answer names (R14). -/
def Answered (identity : Fin 16) (id : HostId) (e : HostEntry) (s : State) : Prop :=
  s.porn = true ∧ s.mport.quietSince = none ∧ identity.val = id.val ∧
    s.tracker.hosts.find? (fun x => x.id = id ∧ x.op = .outstanding) = some e

theorem id_of_answered {s : State} {identity : Fin 16} {id : HostId} {e : HostEntry} (h : Answered identity id e s) :
    e.id = id ∧ e ∈ s.tracker.hosts := by
  obtain ⟨-, -, -, hfind⟩ := h
  have hboth := List.find?_some hfind
  rw [decide_eq_true_eq] at hboth
  obtain ⟨hid, -⟩ := hboth
  exact ⟨hid, List.mem_of_find?_eq_some hfind⟩

/-- The answer to the operation outstanding of a host entry (R14). -/
theorem exec_answer_host {s : State} {identity : Fin 16} {id : HostId} {e : HostEntry} (a : MemAnswer)
    (h : Answered identity id e s) :
    exec (.answer identity a) s = .next (settleQuiesce (offerNext (hostAnswered e a s))) := by
  obtain ⟨hporn, hquiet, hid, hfind⟩ := h
  have hlt : identity.val < 8 := hid ▸ id.isLt
  have hfin : (⟨identity.val, hlt⟩ : HostId) = id := Fin.ext hid
  rw [exec_answer, execAnswer, whilePowered, if_pos hporn, hquiet, entryOfIdentity_of_lt hlt, hfin]
  simp only [Option.isSome_none, Bool.false_eq_true, if_false, hfind]

/-- The host entry stays in use, so the answer is no step 4 of a soft reset. -/
theorem exec_answer_of_hosts {s t : State} {identity : Fin 16} {id : HostId} {e : HostEntry} {a : MemAnswer}
    (h : Answered identity id e s) (ht : hostAnswered e a s = t) (hhosts : t.tracker.hosts ≠ []) :
    exec (.answer identity a) s = .next (offerNext t) := by
  rw [exec_answer_host a h, ht, settleQuiesce_of_hosts]
  rwa [offerNext_tracker]

theorem forwardResult_eq (r : Request) (a : MemAnswer) :
    forwardResult r a =
      match a, r.kind with
      | .ok lanes, .read => .okay (lanes.toList.take r.count.toNat)
      | .ok _, .write => .okay []
      | .error, _ => .failed .memFault := by
  cases a with
  | ok lanes => cases hkind : r.kind <;> simp only [forwardResult, hkind]
  | error => rfl

/-- Settles O35: the entry moves to ANSWER and stays in use. -/
theorem forwardAnswerIsReturned : Obligations.ForwardAnswerIsReturned := by
  intro s identity id e a hporn hquiet hidentity hfind hphase
  have hanswered : Answered identity id e s := ⟨hporn, hquiet, hidentity, hfind⟩
  obtain ⟨rfl, hmem⟩ := id_of_answered hanswered
  have hforward : hostAnswered e a s = answerHost e (forwardResult e.request a) s := by
    rcases hphase with h | h <;> simp only [hostAnswered, h]
  refine exec_answer_of_hosts hanswered (hforward.trans ?_) (withHost_hosts_ne_nil e.id _ (s.readySeq + 1) hmem)
  rw [forwardResult_eq]
  rfl

/-! ## The record of a PRE-READ -/

/-- The answer to a PRE-READ makes a record that is no orphan VALID or VOID (R70). -/
theorem settleRecord_of_reserved {s : State} {position : Nat} {x : Record} (a : MemAnswer)
    (hx : recordAt s.journal position = some x) (hstate : x.state = .reserved false) :
    settleRecord position a s =
      { s with
        journal :=
          { s.journal with
            ring :=
              s.journal.ring.set (ringIndex s.journal position)
                (some { x with state := match a with | .ok lanes => .valid lanes | .error => .void }) } } := by
  unfold settleRecord
  cases a <;> simp only [hx, settledRecord, hstate]

/-- The answer to a PRE-READ frees the record of an orphan, and the head advances (R71, R75, R78). -/
theorem settleRecord_of_orphan {s : State} {position : Nat} {x : Record} {freed kept : List (Option Record)}
    (a : MemAnswer) (hx : recordAt s.journal position = some x) (hstate : x.state = .reserved true)
    (hring : s.journal.ring.set (ringIndex s.journal position) none = freed ++ kept)
    (hfreed : ∀ slot ∈ freed, slot = none) (hkept : kept.head? ≠ some none) :
    settleRecord position a s =
      { s with
        journal := { s.journal with head := (s.journal.head + freed.length) % 1024, ring := kept }
        admission :=
          if s.journal.ring.length = 1024 ∧ kept.length < 1024 then releasedWhere (fun reason _ _ => reason == .jfull) s
          else s.admission } := by
  have hsettled : settledRecord a x = none := settledRecord_eq_none.mpr hstate
  unfold settleRecord
  simp only [hx, hsettled, signalFall_eq, advanceHead_eq hring hfreed hkept, occupancy]
  rfl

/-- Settles O36: the entry moves on, and the record is settled by whether it is an orphan's. -/
theorem preReadAnswerSettlesRecord : Obligations.PreReadAnswerSettlesRecord := by
  intro s identity id e a position epoch x orphan after seq hporn hquiet hidentity hfind hphase hkind hx hstate hafter hseq
  have hanswered : Answered identity id e s := ⟨hporn, hquiet, hidentity, hfind⟩
  obtain ⟨rfl, hmem⟩ := id_of_answered hanswered
  have hpre : hostAnswered e a s = drainTest (settleEntryRecord e a (withHost e.id after seq s)) := by
    subst hafter hseq
    cases a <;> simp only [hostAnswered, hphase] <;> rfl
  have hmoved : hostAnswered e a s = drainTest (settleRecord position a (withHost e.id after seq s)) := by
    rw [hpre, settleEntryRecord, hkind]
  have hhosts : (drainTest (settleRecord position a (withHost e.id after seq s))).tracker.hosts ≠ [] := by
    rw [drainTest_hosts, settleRecord_tracker]
    exact withHost_hosts_ne_nil e.id after seq hmem
  rw [exec_answer_of_hosts hanswered hmoved hhosts]
  refine ⟨fun horphan => ?_, fun freed kept horphan hring hfreed hkept => ?_⟩
  · subst horphan
    rw [settleRecord_of_reserved (s := withHost e.id after seq s) a hx hstate]
    rfl
  · subst horphan
    rw [settleRecord_of_orphan (s := withHost e.id after seq s) a hx hstate hring hfreed hkept]
    rfl

end Sys2Proof.Machine
end

section
/-!
PROOFS. The restore engine: what the answers to its RESTORE do, and the rollback of a second expiry (R112 to R123, R129, R141).
-/

namespace Sys2Proof.Machine

/-! ## Answers to the restore entry -/

/-- The answer to the RESTORE outstanding (R14). -/
theorem exec_answer_restore {s : State} {identity : Fin 16} {e : RestoreEntry} (a : MemAnswer) (hporn : s.porn = true)
    (hquiet : s.mport.quietSince = none) (hid : identity.val = 8) (he : s.tracker.restore = some e)
    (hop : e.op = .outstanding) :
    exec (.answer identity a) s =
      .next (settleQuiesce (restoreAnswered e a { s with tracker := { s.tracker with restore := none } })) := by
  rw [exec_answer, execAnswer, whilePowered, if_pos hporn, hquiet, entryOfIdentity_of_eq hid]
  simp only [Option.isSome_none, Bool.false_eq_true, if_false, he, hop, if_true]

/-- The part once the RESTORE in flight is answered: the restore entry is free, and retry clear (R119, R121). -/
def restoreFreed (s : State) : State :=
  { s with tracker := { s.tracker with restore := none }, engine := { s.engine with retry := false } }

/-- The record before the tail is freed (R120). -/
theorem freeAtTail_one {s : State} {kept : List (Option Record)} {last : Option Record}
    (hring : s.journal.ring = kept ++ [last]) : freeAtTail 1 s = drawnBack kept 1 s := by
  have htake : s.journal.ring.take (s.journal.ring.length - 1) = kept := by rw [hring]; simp
  rw [freeAtTail_eq, htake]

/-- Settles O37: the record and the VOID run below it are drawn back as one. -/
theorem restoreOkGoesOnOrCompletes : Obligations.RestoreOkGoesOnOrCompletes := by
  intro s identity e lanes target last kept voids hporn hquiesce hquiet hid he hop hengine hstopping hocc htarget hring hvoids
  have hone : freeAtTail 1 (restoreFreed s) = drawnBack (kept ++ voids) 1 (restoreFreed s) := freeAtTail_one hring
  have hlength : (kept ++ voids).length + 1 = (restoreFreed s).journal.ring.length := by
    simp [restoreFreed, hring, Nat.add_assoc]
  have hboth : drawnBack kept voids.length (drawnBack (kept ++ voids) 1 (restoreFreed s)) =
      drawnBack kept (voids.length + 1) (restoreFreed s) := by
    rw [drawnBack_drawnBack hlength List.length_append.symm Nat.one_pos hocc, Nat.add_comm]
  have hnewest : (drawnBack (kept ++ voids) 1 (restoreFreed s)).stack.checkpoints.getLast? =
      some { target with distance := target.distance - 1 } := by
    simp [drawnBack, restoreFreed, htarget]
  obtain ⟨hcompletes, hgoesOn⟩ := continueRestore_eq hnewest rfl hvoids
  have hquiesce' : (continueRestore (drawnBack (kept ++ voids) 1 (restoreFreed s))).link.quiesce = none := by
    rwa [continueRestore_link]
  have hanswered : restoreAnswered e (.ok lanes) { s with tracker := { s.tracker with restore := none } } =
      continueRestore (drawnBack (kept ++ voids) 1 (restoreFreed s)) := by
    rw [← hone]
    exact if_neg (by simp [hstopping])
  rw [exec_answer_restore (.ok lanes) hporn hquiet hid he hop, hanswered, settleQuiesce_of_none hquiesce']
  refine ⟨fun hdistance => ?_, fun x pre hdistance hx hvalid => ?_⟩
  · rw [hcompletes (by simp [hdistance]), hboth]
    rfl
  · rw [hgoesOn x pre (Nat.lt_sub_of_add_lt hdistance) hx hvalid hengine, hboth]
    rfl

theorem failRestore_eq (s : State) :
    failRestore s =
      { s with
        engine := { s.engine with state := .failed, span := none, retry := false }
        events := { s.events with flags := s.events.flags ||| 0x100#9 }
        admission := releasedWhere (fun reason _ _ => reason == .rollback) s } := by
  unfold failRestore
  rw [release_eq, clears_engineLeft]
  rfl

/-- Settles O38: by the mark for stopping and by retry. -/
theorem restoreErrorsAndStopping : Obligations.RestoreErrorsAndStopping := by
  refine ⟨fun s identity e hporn hquiesce hquiet hid he hop hstopping => ?_,
    fun s identity e lanes last kept hporn hquiet hid he hop hstopping => ⟨?_, fun hring => ?_⟩⟩
  case refine_1 =>
    have hgoesOn : ¬s.engine.stopping = true := by simp [hstopping]
    rw [exec_answer_restore .error hporn hquiet hid he hop]
    refine ⟨fun hretry => ?_, fun hretry => ?_⟩
    · have hretry' : ¬s.engine.retry = true := by simp [hretry]
      rw [restoreAnswered, if_neg hgoesOn, if_neg hretry']
      exact congrArg Host.Outcome.next (settleQuiesce_of_none hquiesce)
    · rw [restoreAnswered, if_neg hgoesOn, if_pos hretry, failRestore_eq]
      exact congrArg Host.Outcome.next (settleQuiesce_of_none hquiesce)
  case refine_2 =>
    rw [exec_answer_restore .error hporn hquiet hid he hop]
    exact congrArg (fun t => Host.Outcome.next (settleQuiesce t)) (if_pos hstopping)
  case refine_3 =>
    have hfreed : freeAtTail 1 (restoreFreed s) = drawnBack kept 1 (restoreFreed s) := freeAtTail_one hring
    rw [exec_answer_restore (.ok lanes) hporn hquiet hid he hop]
    exact congrArg (fun t => Host.Outcome.next (settleQuiesce t)) ((if_pos hstopping).trans hfreed)

/-! ## The second expiry -/

/-- A due second expiry sets DLROLL and has the rollback accepted (R141). -/
theorem exec_secondExpiry {s : State} (hporn : s.porn = true) (hdue : secondExpiryDue s = true) :
    exec .secondExpiry s = .next (acceptRollback (deadlineTarget s) (setFlag .dlroll s)) := by
  change execSecondExpiry s = _
  rw [execSecondExpiry, whilePowered, if_pos hporn, if_pos hdue]

theorem deadlineTarget_eq (s : State) :
    deadlineTarget s = if s.params.dlTarget = .newest then depth s - 1 else 0 := by
  unfold deadlineTarget
  cases s.params.dlTarget <;> rfl

theorem one_le_depth_of_getElem? {s : State} {k : Nat} {target : Checkpoint} (h : s.stack.checkpoints[k]? = some target) :
    1 ≤ depth s := by
  obtain ⟨hlt, -⟩ := List.getElem?_eq_some_iff.mp h
  exact Nat.lt_of_le_of_lt (Nat.zero_le k) hlt

/-- Settles O42: the expiry is due, and the acceptance tests the drain condition. -/
theorem secondExpiryRollsBack : Obligations.SecondExpiryRollsBack := by
  intro s k target entered hporn hwarned hperiod hready hidle hstopping hk htarget hentered
  subst hentered
  have hdue : secondExpiryDue s = true := by
    simp [secondExpiryDue, journalIsReady, hwarned, hperiod, hready, hidle, one_le_depth_of_getElem? htarget]
  have hexec : exec .secondExpiry s = .next (drainTest (rollbackEntered k target (setFlag .dlroll s))) := by
    rw [exec_secondExpiry hporn hdue, deadlineTarget_eq, ← hk,
      acceptRollback_eq (s := setFlag .dlroll s) htarget]
  have hnewest := rollbackEntered_newest (s := setFlag .dlroll s) htarget
  obtain ⟨hdrains, hruns⟩ := drainTest_eq (s := rollbackEntered k target (setFlag .dlroll s)) rfl hstopping hnewest
  refine ⟨fun hholds => hexec.trans (congrArg Host.Outcome.next (hdrains hholds)), fun kept voids hholds hring hvoids => ?_⟩
  obtain ⟨hcompletes, hgoesOn⟩ := hruns kept voids hholds hring hvoids
  exact ⟨fun hdistance => hexec.trans (congrArg Host.Outcome.next (hcompletes hdistance)),
    fun x pre hdistance hx hvalid => hexec.trans (congrArg Host.Outcome.next (hgoesOn x pre hdistance hx hvalid))⟩

end Sys2Proof.Machine
end

section
/-!
PROOFS. Resets and intervals: power-on, the timed events, and the two halves of a soft reset (R16 to R18, R59, R85 to R87, R140,
R170 to R173).
-/

namespace Sys2Proof.Machine

/-! ## Power and time -/

/-- Settles O40. -/
theorem pornGivesPowerOnValues : Obligations.PornGivesPowerOnValues := by
  intro s
  refine ⟨fun hporn => ⟨powerOffValues s, congrArg Host.Outcome.next (if_pos hporn), ?_⟩, fun hporn => ?_⟩
  · exact ⟨rfl, rfl, rfl, rfl, rfl, rfl, rfl, rfl, rfl, rfl, rfl, rfl, rfl, rfl, rfl⟩
  · exact congrArg Host.Outcome.next (if_neg (by simp [hporn]))

theorem quietIntervalDue_iff {s : State} {began : Nat} (hporn : s.porn = true) (h : s.mport.quietSince = some began) :
    quietIntervalDue s = true ↔ began + 64 ≤ s.now := by
  rw [quietIntervalDue, hporn, h]
  exact decide_eq_true_iff

theorem initialisationDue_iff {s : State} {began : Nat} (hporn : s.porn = true)
    (h : s.journal.readiness = .initialising began) : initialisationDue s = true ↔ began + 128 ≤ s.now := by
  unfold initialisationDue
  simp only [h, hporn, Bool.true_and]
  exact decide_eq_true_iff

theorem firstExpiryDue_iff {s : State} (h : s.timer.state = .running) :
    firstExpiryDue s = true ↔ s.timer.period ≤ s.timer.elapsed := by
  simp [firstExpiryDue, h]

/-- Settles O41: each row's own test of the time. -/
theorem timedEventsComeOnTime : Obligations.TimedEventsComeOnTime := by
  refine ⟨fun s began hporn => ⟨fun hquiet => ?_, fun hinit => ?_⟩, fun s hporn hrunning => ?_⟩
  · exact congrArg Host.Outcome.next (if_congr (quietIntervalDue_iff hporn hquiet) rfl rfl)
  · exact congrArg Host.Outcome.next (if_congr (initialisationDue_iff hporn hinit) rfl rfl)
  · exact congrArg Host.Outcome.next ((if_pos hporn).trans (if_congr (firstExpiryDue_iff hrunning) rfl rfl))

/-! ## Soft reset -/

/-- The part once steps 1 and 2 of a soft reset are taken (R171, R172). -/
def resetBegun (toggle : Bool) (s : State) : State :=
  bumpReady
    { s with
      hport := { s.hport with intake := resetIntake s.readySeq s.admission.held s.hport.intake }
      admission := { s.admission with waitList := s.admission.waitList.map (resetWaitEntry s.readySeq), held := none }
      journal := { s.journal with readiness := abandonInitialisation s.journal.readiness }
      engine :=
        { s.engine with
          lostrb := s.engine.lostrb || decide (s.engine.state ≠ .idle)
          stopping := decide (s.engine.state = .drain ∨ s.engine.state = .restore) }
      timer := { s.timer with state := .off, elapsed := 0, divider := 0 }
      link := { s.link with fetchResponse := none, quiesce := some toggle } }

/-- SOFT_RESET with the expected toggle and no payload (R170). -/
theorem exec_softReset {f : Frame} {s : State} (h : Receives f s) (hpayload : f.payload = []) :
    exec (.softReset f) s = .next (settleQuiesce (offerNext (resetBegun f.toggle s))) := by
  change Host.Outcome.next (receiveFrame f _ s) = _
  rw [receiveFrame_of_receives h (by simp [hpayload]), if_neg (by simp [hpayload])]
  rfl

theorem resetIntakeEntry_eq (seq : Nat) (region : Option RegionIndex) (q : IntakeEntry) :
    resetIntakeEntry seq region q =
      if q.answering = none then { q with answering := some ⟨.failed .reset, region, seq⟩ } else q := by
  unfold resetIntakeEntry
  cases hq : q.answering <;> rfl

/-- The entries behind the intake head are answered without a region index (R59, R152). -/
theorem resetIntake_eq (seq : Nat) (held : Option HeldHead) (intake : List IntakeEntry) :
    resetIntake seq held intake =
      intake.mapIdx fun place q =>
        if q.answering = none then
          { q with answering := some ⟨.failed .reset, if place = 0 then held.bind HeldHead.region else none, seq⟩ }
        else q := by
  cases intake with
  | nil => rfl
  | cons q rest =>
    simp only [resetIntake, List.mapIdx_cons, resetIntakeEntry_eq, if_true, Nat.add_one_ne_zero, if_false]
    refine congrArg (List.cons _) (List.ext_getElem? fun i => ?_)
    rw [List.getElem?_map, List.getElem?_mapIdx]
    exact Option.map_congr fun x _ => resetIntakeEntry_eq seq none x

theorem resetWaitEntry_eq (seq : Nat) (e : WaitEntry) :
    resetWaitEntry seq e =
      { e with
        released := false
        answering := if e.answering = none then some ⟨.failed .reset, e.region, seq⟩ else e.answering } := by
  unfold resetWaitEntry
  cases he : e.answering <;> rfl

theorem abandonInitialisation_eq (r : Readiness) :
    abandonInitialisation r = if r = .ready then .ready else .notReady := by
  cases r <;> rfl

/-- Steps 1 and 2 field by field (R171, R172). -/
theorem resetBegun_eq (toggle : Bool) (s : State) :
    resetBegun toggle s =
      { s with
        hport :=
          { s.hport with
            intake :=
              s.hport.intake.mapIdx fun place q =>
                if q.answering = none then
                  { q with
                    answering :=
                      some
                        ⟨.failed .reset, if place = 0 then s.admission.held.bind HeldHead.region else none, s.readySeq⟩ }
                else q }
        admission :=
          { s.admission with
            held := none
            waitList := s.admission.waitList.map fun e =>
              { e with
                released := false
                answering := if e.answering = none then some ⟨.failed .reset, e.region, s.readySeq⟩ else e.answering } }
        journal := { s.journal with readiness := if s.journal.readiness = .ready then .ready else .notReady }
        engine :=
          { s.engine with
            lostrb := s.engine.lostrb || s.engine.state != .idle
            stopping := s.engine.state == .drain || s.engine.state == .restore }
        timer := { s.timer with state := .off, elapsed := 0, divider := 0 }
        link := { s.link with fetchResponse := none, quiesce := some toggle }
        readySeq := s.readySeq + 1 } := by
  have hlostrb : (s.engine.lostrb || decide (s.engine.state ≠ .idle)) =
      (s.engine.lostrb || s.engine.state != .idle) := by
    cases s.engine.state <;> rfl
  have hstopping : decide (s.engine.state = .drain ∨ s.engine.state = .restore) =
      (s.engine.state == .drain || s.engine.state == .restore) := by
    cases s.engine.state <;> rfl
  simp only [resetBegun, bumpReady, resetIntake_eq, funext (resetWaitEntry_eq s.readySeq), abandonInitialisation_eq,
    hlostrb, hstopping]

/-- The part holds nothing that step 4 waits for (R173). -/
def holdsNothing (s : State) : Prop :=
  s.hport.intake = [] ∧ s.admission.waitList = [] ∧ s.hport.taking = none ∧ s.tracker.hosts = [] ∧
    s.tracker.restore = none

theorem quiesceDone_iff (s : State) : quiesceDone s = true ↔ holdsNothing s := by
  simp [quiesceDone, holdsNothing, and_assoc]

theorem holdsNothing_resetBegun (toggle : Bool) (s : State) :
    holdsNothing (offerNext (resetBegun toggle s)) ↔ holdsNothing s := by
  have hintake : (resetBegun toggle s).hport.intake = [] ↔ s.hport.intake = [] := by
    rw [resetBegun_eq, List.mapIdx_eq_nil_iff]
  have hwaitList : (resetBegun toggle s).admission.waitList = [] ↔ s.admission.waitList = [] := by
    rw [resetBegun_eq, List.map_eq_nil_iff]
  simp only [holdsNothing, offerNext_intake, offerNext_admission, offerNext_taking, offerNext_tracker, hintake, hwaitList]
  rfl

/-- Settles O59: with something held, step 4 waits. -/
theorem softResetQuiesces : Obligations.SoftResetQuiesces := by
  intro s f hreceives hpayload hholds
  have hheld : ¬holdsNothing s := by
    rw [holdsNothing]
    tauto
  have hwaits : quiesceDone (offerNext (resetBegun f.toggle s)) = false := by
    rw [← Bool.not_eq_true, quiesceDone_iff, holdsNothing_resetBegun]
    exact hheld
  have hsettle : settleQuiesce (offerNext (resetBegun f.toggle s)) = offerNext (resetBegun f.toggle s) := by
    rcases settleQuiesce_cases (offerNext (resetBegun f.toggle s)) with heq | ⟨toggle, -, hdone, -⟩
    · exact heq
    · exact absurd hdone (by simp [hwaits])
  rw [exec_softReset hreceives hpayload, hsettle, resetBegun_eq]

/-- Step 4 of a quiesce that has come to hold nothing (R173). -/
theorem settleQuiesce_of_holdsNothing {s : State} {toggle : Bool} (hquiesce : s.link.quiesce = some toggle)
    (h : holdsNothing s) : settleQuiesce s = softResetValues toggle s := by
  unfold settleQuiesce
  simp only [hquiesce, (quiesceDone_iff s).mpr h, if_true]

/-- Settles O60: in its own event, and after steps 1 and 2. -/
theorem stepFourGivesSoftResetValues : Obligations.StepFourGivesSoftResetValues := by
  intro s c toggle lostrb hporn hintake hwaitList htaking hhosts hrestore hevent
  have hnothing : holdsNothing s := ⟨hintake, hwaitList, htaking, hhosts, hrestore⟩
  rcases hevent with ⟨f, rfl, hreceives, hpayload, rfl, rfl⟩ | ⟨rfl, hquiesce, rfl⟩
  · have hquiesce : (offerNext (resetBegun f.toggle s)).link.quiesce = some f.toggle := by
      rw [offerNext_link]
      rfl
    rw [exec_softReset hreceives hpayload,
      settleQuiesce_of_holdsNothing hquiesce ((holdsNothing_resetBegun f.toggle s).mpr hnothing)]
    refine ⟨_, rfl, ?_⟩
    simp only [softResetValues, offerNext_porn, offerNext_now, offerNext_mport, offerNext_engine, offerNext_link,
      offerNext_pending, resetBegun_eq, hporn]
    rfl
  · refine ⟨_, congrArg Host.Outcome.next ((if_pos hporn).trans (settleQuiesce_of_holdsNothing hquiesce hnothing)), ?_⟩
    rw [softResetValues, hporn]
    rfl

end Sys2Proof.Machine
end

section
/-!
PROOFS. The checkpoint commands: MARK, RELEASE, DISCARD and ROLLBACK, refused or carried out (R75, R79, R95 to R105, R111 to
R123, R127).
-/

namespace Sys2Proof.Machine

/-! ## Replies -/

/-- The part once a command of this reply is answered (R165). -/
def answered (f : Frame) (reply : Reply) : State :=
  { reply.after with link := answeredLink f reply.status reply.payload reply.after.link }

theorem answered_refuse (f : Frame) (status : Status) (s : State) :
    answered f (refuse status s) = { s with link := answeredLink f status [] s.link } := rfl

section
variable {f : Frame} {s : State}

theorem payload16_of_pair {hi lo : Byte} (h : f.payload = [hi, lo]) : payload16 f 0 = hi ++ lo := by
  simp [payload16, payloadByte, h, word16]

theorem exec_mark (h : Receives f s) (hpayload : f.payload = []) (hready : s.journal.readiness = .ready) :
    exec (.mark f) s = .next (answered f (markReply s)) :=
  congrArg Host.Outcome.next
    (execCommand_of_receives (n := 0) h (by simp [hpayload]) (by decide) (fun _ => hready) markReply)

theorem exec_release (h : Receives f s) (hpayload : f.payload.length = 1) (hready : s.journal.readiness = .ready) :
    exec (.release f) s = .next (answered f (releaseReply (payloadByte f 0).toNat s)) :=
  congrArg Host.Outcome.next (execCommand_of_receives (n := 1) h hpayload (by decide) (fun _ => hready) _)

theorem exec_discard (h : Receives f s) (hpayload : f.payload = []) (hready : s.journal.readiness = .ready) :
    exec (.discard f) s = .next (answered f (discardReply s)) :=
  congrArg Host.Outcome.next
    (execCommand_of_receives (n := 0) h (by simp [hpayload]) (by decide) (fun _ => hready) discardReply)

theorem exec_rollback (h : Receives f s) (hpayload : f.payload.length = 2) (hready : s.journal.readiness = .ready) :
    exec (.rollback f) s = .next (answered f (rollbackReply (payload16 f 0) s)) :=
  congrArg Host.Outcome.next (execCommand_of_receives (n := 2) h hpayload (by decide) (fun _ => hready) _)

end

/-! ## Refusals -/

section
variable {s : State}

theorem engineBusy_of (h : s.engine.state = .drain ∨ s.engine.state = .restore) : engineBusy s = true :=
  decide_eq_true h

theorem not_engineBusy_of (h : s.engine.state = .idle ∨ s.engine.state = .failed) : ¬engineBusy s = true := by
  simp [engineBusy_eq_false.mpr h]

theorem findCheckpoint_eq_none {epoch : Epoch} (h : epoch = 0#16 ∨ ∀ x ∈ s.stack.checkpoints, x.epoch ≠ epoch) :
    findCheckpoint epoch s = none := by
  unfold findCheckpoint
  rcases h with rfl | hnone
  · exact if_pos rfl
  · have hfind : s.stack.checkpoints.findIdx? (fun c => c.epoch = epoch) = none := by
      simpa [List.findIdx?_eq_none_iff] using hnone
    rw [hfind, ite_self]

/-- Settles O54: each command's checks in their order. -/
theorem checkpointCommandsAreRefused : Obligations.CheckpointCommandsAreRefused := by
  intro s f hreceives hready
  refine ⟨fun hstate => ?busy, fun hstate => ?failed, fun hstate => ?idle, fun hi lo hstate hpayload hnone => ?rollback⟩
  case busy =>
    have hbusy : engineBusy s = true := engineBusy_of hstate
    refine ⟨fun hpayload => ?_, fun hpayload => ?_, fun hpayload => ?_, fun hpayload => ?_⟩
    · rw [exec_mark hreceives hpayload hready, markReply, if_pos hbusy, answered_refuse]
    · rw [exec_release hreceives hpayload hready, releaseReply, if_pos hbusy, answered_refuse]
    · rw [exec_discard hreceives hpayload hready, discardReply, if_pos hbusy, answered_refuse]
    · rw [exec_rollback hreceives hpayload hready, rollbackReply, if_pos hbusy, answered_refuse]
  case failed =>
    have hbusy : ¬engineBusy s = true := not_engineBusy_of (.inr hstate)
    refine ⟨fun hpayload => ?_, fun hpayload => ?_⟩
    · rw [exec_mark hreceives hpayload hready, markReply, if_neg hbusy, if_pos hstate, answered_refuse]
    · rw [exec_release hreceives hpayload hready, releaseReply, if_neg hbusy, if_pos hstate, answered_refuse]
  case idle =>
    have hbusy : ¬engineBusy s = true := not_engineBusy_of (.inl hstate)
    have hfailed : ¬s.engine.state = .failed := by simp [hstate]
    refine ⟨fun hpayload hdepth => ?_, fun n hpayload => ?_⟩
    · have hfull : Config.maxDepth ≤ depth s := hdepth
      rw [exec_mark hreceives hpayload hready, markReply, if_neg hbusy, if_neg hfailed, if_pos hfull, answered_refuse]
    · have hcount : payloadByte f 0 = n := by simp [payloadByte, hpayload]
      rw [exec_release hreceives (by simp [hpayload]) hready, hcount, releaseReply, if_neg hbusy, if_neg hfailed]
      refine ⟨fun hdepth => ?_, fun hdepth hn => ?_⟩
      · rw [if_pos hdepth, answered_refuse]
      · rw [if_neg (by omega), if_pos hn, answered_refuse]
  case rollback =>
    rw [exec_rollback hreceives (by simp [hpayload]) hready, payload16_of_pair hpayload, rollbackReply,
      if_neg (not_engineBusy_of hstate), findCheckpoint_eq_none hnone, answered_refuse]

end

/-! ## MARK -/

/-- The four steps of an accepted MARK at once (R96). -/
theorem acceptMark_eq (s : State) :
    acceptMark s =
      { s with
        stack :=
          { checkpoints :=
              s.stack.checkpoints ++
                [{ epoch := s.stack.nextEpoch, mark := (s.journal.head + s.journal.ring.length) % 1024, distance := 0 }]
            nextEpoch := (pushCheckpoint s).stack.nextEpoch }
        regions := if s.regions.dirty then { s.regions with active := s.regions.staged, dirty := false } else s.regions
        admission := if s.regions.dirty then releasedWhere (fun _ _ _ => true) s else s.admission
        timer := restarted s
        engine := { s.engine with lostrb := false } } := by
  unfold acceptMark
  rw [restartTimer_eq, promoteIfDirty]
  cases hdirty : s.regions.dirty with
  | true =>
    have hdirty' : (pushCheckpoint s).regions.dirty = true := hdirty
    rw [if_pos hdirty', promote, release_eq]
    rfl
  | false =>
    have hdirty' : ¬(pushCheckpoint s).regions.dirty = true := by simp [hdirty]
    rw [if_neg hdirty']
    rfl

/-- Settles O55. -/
theorem markOpensACheckpoint : Obligations.MarkOpensACheckpoint := by
  intro s f hreceives hpayload hready hidle hdepth
  have hfailed : ¬s.engine.state = .failed := by simp [hidle]
  have hroom : ¬Config.maxDepth ≤ depth s := Nat.not_le.mpr hdepth
  rw [exec_mark hreceives hpayload hready, markReply, if_neg (not_engineBusy_of (.inl hidle)), if_neg hfailed,
    if_neg hroom, accept, bytes16_eq, acceptMark_eq]
  rfl

/-! ## RELEASE and DISCARD -/

theorem stopTimer_eq (s : State) :
    stopTimer s = { s with timer := { s.timer with state := .off, elapsed := 0, divider := 0 } } := rfl

theorem timerAfterRelease_eq (s : State) :
    timerAfterRelease s =
      { s with
        timer := if depth s = 0 then { s.timer with state := .off, elapsed := 0, divider := 0 } else restarted s } := by
  unfold timerAfterRelease
  split
  · rfl
  · exact restartTimer_eq s

/-- The JFULL waiters of a state whose journal may have released them already (R53). -/
theorem release_journal_eq {s t : State} (hintake : t.hport = s.hport) {c : Prop} [Decidable c]
    (hadmission : t.admission =
      if c then releasedWhere (fun reason _ _ => reason == .jfull) s else s.admission) :
    release .journal t = { t with admission := releasedWhere (fun reason _ _ => reason == .jfull) s } := by
  rw [release_eq, clears_journal]
  have hreleased : releasedWhere (fun reason _ _ => reason == .jfull) t =
      releasedWhere (fun reason _ _ => reason == .jfull) { s with admission := t.admission } := by
    simp only [releasedWhere, hintake]
  rw [hreleased, hadmission]
  split
  · rw [releasedWhere_idem]
  · rfl

section
variable {s : State}

/-- What an accepted RELEASE leaves (R75, R79, R100). -/
theorem acceptRelease_eq {n : Nat} {freed kept : List (Option Record)} (hn : n ≤ depth s)
    (hring : (s.journal.ring.map fun slot =>
        slot.bind fun x =>
          if x.epoch ∈ (s.stack.checkpoints.take n).map Checkpoint.epoch then abandonedRecord x else some x) =
      freed ++ kept)
    (hfreed : ∀ slot ∈ freed, slot = none) (hkept : kept.head? ≠ some none) :
    acceptRelease n s =
      { s with
        stack := { s.stack with checkpoints := s.stack.checkpoints.drop n }
        journal := { s.journal with head := (s.journal.head + freed.length) % 1024, ring := kept }
        timer := if n = depth s then { s.timer with state := .off, elapsed := 0, divider := 0 } else restarted s
        admission := releasedWhere (fun reason _ _ => reason == .jfull) s } := by
  have habandoned := abandonEpochs_eq (epochs := (s.stack.checkpoints.take n).map Checkpoint.epoch)
    (s := { s with stack := { s.stack with checkpoints := s.stack.checkpoints.drop n } })
    (fun x => x.epoch ∈ (s.stack.checkpoints.take n).map Checkpoint.epoch) (fun _ _ => Iff.rfl) hring hfreed hkept
  have hdepth : (s.stack.checkpoints.drop n).length = 0 ↔ n = depth s := by
    rw [List.length_drop]
    unfold depth at hn ⊢
    omega
  rw [acceptRelease, habandoned, timerAfterRelease_eq]
  refine (release_journal_eq (s := s) (c := s.journal.ring.length = 1024 ∧ kept.length < 1024) (by rfl) (by rfl)).trans ?_
  simp only [depth, hdepth]
  rfl

/-- What an accepted DISCARD leaves (R75, R79, R103, R104). -/
theorem acceptDiscard_eq {freed kept : List (Option Record)}
    (hring : (s.journal.ring.map fun slot =>
        slot.bind fun x =>
          if s.engine.state = .failed ∨ x.epoch ∈ s.stack.checkpoints.map Checkpoint.epoch then abandonedRecord x
          else some x) = freed ++ kept)
    (hfreed : ∀ slot ∈ freed, slot = none) (hkept : kept.head? ≠ some none) :
    acceptDiscard s =
      { s with
        stack := { s.stack with checkpoints := [] }
        journal := { s.journal with head := (s.journal.head + freed.length) % 1024, ring := kept }
        timer := { s.timer with state := .off, elapsed := 0, divider := 0 }
        admission := releasedWhere (fun reason _ _ => reason == .jfull) s
        engine := { s.engine with state := .idle } } := by
  have hepochs : ∀ x, some x ∈ s.journal.ring →
      (x.epoch ∈ discardedEpochs s ↔ s.engine.state = .failed ∨ x.epoch ∈ s.stack.checkpoints.map Checkpoint.epoch) := by
    intro x hx
    have hlive : x.epoch ∈ liveEpochs s.journal := List.mem_filterMap.mpr ⟨some x, hx, rfl⟩
    by_cases hfailed : s.engine.state = .failed
    · simp only [discardedEpochs, hfailed, if_true, List.mem_append, hlive, or_true, true_or]
    · simp only [discardedEpochs, hfailed, if_false, List.append_nil, false_or]
  have habandoned := abandonEpochs_eq (s := { s with stack := { s.stack with checkpoints := [] } })
    (fun x => s.engine.state = .failed ∨ x.epoch ∈ s.stack.checkpoints.map Checkpoint.epoch) hepochs hring hfreed hkept
  have hreleased := release_journal_eq (s := s)
    (t := stopTimer (abandonEpochs (discardedEpochs s) { s with stack := { s.stack with checkpoints := [] } }))
    (c := s.journal.ring.length = 1024 ∧ kept.length < 1024) (by rw [habandoned]; rfl) (by rw [habandoned]; rfl)
  unfold acceptDiscard
  rw [hreleased, habandoned]
  rfl

end

/-- The newest checkpoint is the last to go (R100). -/
theorem currentEpoch_drop {s t : State} {n : Nat} (h : t.stack.checkpoints = s.stack.checkpoints.drop n) :
    currentEpoch t = if depth s ≤ n then 0#16 else currentEpoch s := by
  rw [currentEpoch, h, List.getLast?_drop]
  unfold depth
  split <;> rfl

/-- Settles O56: the reply of a RELEASE within the depth, read off what the release leaves. -/
theorem releaseGivesUpTheOldest : Obligations.ReleaseGivesUpTheOldest := by
  intro s f n freed kept hreceives hpayload hready hidle hpos hle hring hfreed hkept
  have hcount : payloadByte f 0 = n := by simp [payloadByte, hpayload]
  have hfailed : ¬s.engine.state = .failed := by simp [hidle]
  have hafter := acceptRelease_eq hle hring hfreed hkept
  have hdepth : depth (acceptRelease n.toNat s) = depth s - n.toNat := by
    rw [hafter]
    exact List.length_drop
  have hepoch : (currentEpoch (acceptRelease n.toNat s)).toNat = if n.toNat = depth s then 0 else (currentEpoch s).toNat := by
    rw [currentEpoch_drop (s := s) (n := n.toNat) (by rw [hafter])]
    by_cases hall : n.toNat = depth s
    · rw [if_pos hall.ge, if_pos hall]
      rfl
    · rw [if_neg (by omega), if_neg hall]
  have hreply : releaseReply n.toNat s =
      accept
        (BitVec.ofNat 8 (depth (acceptRelease n.toNat s)) :: bytes16 (currentEpoch (acceptRelease n.toNat s)))
        (acceptRelease n.toNat s) := by
    rw [releaseReply, if_neg (not_engineBusy_of (.inl hidle)), if_neg hfailed, if_neg (by omega), if_neg (by omega)]
  rw [exec_release hreceives (by simp [hpayload]) hready, hcount, hreply, bytes16_eq, hdepth, hepoch, hafter]
  rfl

/-- Settles O58. -/
theorem discardEndsEveryCheckpoint : Obligations.DiscardEndsEveryCheckpoint := by
  intro s f freed kept hreceives hpayload hready hstate hring hfreed hkept
  rw [exec_discard hreceives hpayload hready, discardReply, if_neg (not_engineBusy_of hstate),
    acceptDiscard_eq hring hfreed hkept]
  rfl

/-! ## ROLLBACK -/

theorem findCheckpoint_of_first {epoch : Epoch} {s : State} {k : Nat} {target : Checkpoint} (hne : epoch ≠ 0#16)
    (htarget : s.stack.checkpoints[k]? = some target) (hepoch : target.epoch = epoch)
    (hfirst : ∀ j < k, ∀ x, s.stack.checkpoints[j]? = some x → x.epoch ≠ epoch) : findCheckpoint epoch s = some k := by
  unfold findCheckpoint
  have hne' : ¬epoch = 0 := hne
  rw [if_neg hne', List.findIdx?_eq_some_iff_getElem]
  obtain ⟨hlt, rfl⟩ := List.getElem?_eq_some_iff.mp htarget
  refine ⟨hlt, decide_eq_true hepoch, fun j hj => ?_⟩
  simpa using hfirst j hj _ (List.getElem?_eq_getElem (hj.trans hlt))

theorem append_of_be16 (v : BitVec 16) : BitVec.ofNat 8 (v.toNat / 256) ++ BitVec.ofNat 8 v.toNat = v := by
  apply BitVec.eq_of_toNat_eq
  have hlt : v.toNat < 65536 := v.isLt
  have hword := word16_toNat (BitVec.ofNat 8 (v.toNat / 256)) (BitVec.ofNat 8 v.toNat)
  rw [word16] at hword
  rw [hword]
  simp only [BitVec.toNat_ofNat]
  omega

/-- Settles O57: STARTED with the span's length, and the acceptance tests the drain condition. -/
theorem rollbackIsStarted : Obligations.RollbackIsStarted := by
  intro s f k target hreceives hpayload hready hstate hstopping htarget hne hfirst
  have hepoch : payload16 f 0 = target.epoch := by
    rw [payload16_of_pair hpayload, append_of_be16]
  have hfind : findCheckpoint target.epoch s = some k := findCheckpoint_of_first hne htarget rfl hfirst
  have hreply : rollbackReply (payload16 f 0) s =
      ⟨.started, be16 target.epoch.toNat ++ be16 target.distance, acceptRollback k s⟩ := by
    rw [hepoch, rollbackReply, if_neg (not_engineBusy_of hstate), hfind]
    simp only [htarget, Option.map_some, Option.getD_some, bytes16_eq target.epoch, bytes16_ofNat]
  have hexec : exec (.rollback f) s =
      .next { drainTest (rollbackEntered k target s) with
        link := answeredLink f .started (be16 target.epoch.toNat ++ be16 target.distance) s.link } := by
    rw [exec_rollback hreceives (by simp [hpayload, be16]) hready, hreply, answered, acceptRollback_link,
      acceptRollback_eq htarget]
  obtain ⟨hdrains, hruns⟩ := drainTest_eq (s := rollbackEntered k target s) rfl hstopping (rollbackEntered_newest htarget)
  refine ⟨fun hholds => by rw [hexec, hdrains hholds], fun kept voids hholds hring hvoids => ?_⟩
  obtain ⟨hcompletes, hgoesOn⟩ := hruns kept voids hholds hring hvoids
  exact ⟨fun hdistance => by rw [hexec, hcompletes hdistance],
    fun x pre hdistance hx hvalid => by rw [hexec, hgoesOn x pre hdistance hx hvalid]⟩

end Sys2Proof.Machine
end

section
/-!
PROOFS. The generic checks of a service command, in their order: the length, then the journal (R165, R177).
-/

namespace Sys2Proof.Machine

section
variable {f : Frame} {s : State}

theorem execCommand_of_badLength {n : Nat} (needs : Bool) (own : State → Reply) (h : Receives f s)
    (hmax : f.payload.length ≤ 40) (hn : f.payload.length ≠ n) :
    execCommand f n needs own s = { s with link := answeredLink f .badLength [] s.link } := by
  rw [execCommand, receiveFrame_of_receives h hmax, if_pos hn, respond_eq]

theorem execCommand_of_notReady {n : Nat} (own : State → Reply) (h : Receives f s) (hmax : f.payload.length ≤ 40)
    (hn : f.payload.length = n) (hready : s.journal.readiness ≠ .ready) :
    execCommand f n true own s = { s with link := answeredLink f .notReady [] s.link } := by
  have hnot : journalIsReady s = false := decide_eq_false hready
  rw [execCommand, receiveFrame_of_receives h hmax, if_neg (not_not_intro hn), if_pos ⟨rfl, hnot⟩, respond_eq]

/-- A frame of another length names no parameter, so each of the eight rows answers it (R189). -/
theorem writeParam_of_badLength (p : Param) (store : Nat → State → State) (h : Receives f s)
    (hmax : f.payload.length ≤ 40) (hn : f.payload.length ≠ 3) :
    writeParam p store f s = { s with link := answeredLink f .badLength [] s.link } := by
  have hnames : namesAnother p f = false := by simp [namesAnother, hn]
  rw [writeParam, if_neg (by simp [hnames]), execCommand_of_badLength false _ h hmax hn]

theorem exec_unknownCommand {code : BitVec 7} (hcode : isKnownCode code = false) (h : Receives f s)
    (hmax : f.payload.length ≤ 40) :
    exec (.unknownCommand code f) s = .next { s with link := answeredLink f .unknown [] s.link } := by
  have hunknown : ¬isKnownCode code = true := by simp [hcode]
  exact congrArg Host.Outcome.next ((receiveFrame_of_receives h hmax _).trans (if_neg hunknown))

theorem softReset_of_badLength (h : Receives f s) (hmax : f.payload.length ≤ 40) (hn : f.payload.length ≠ 0) :
    exec (.softReset f) s = .next { s with link := answeredLink f .badLength [] s.link } := by
  change Host.Outcome.next (receiveFrame f _ s) = _
  rw [receiveFrame_of_receives h hmax, if_pos hn, respond_eq]

/-- A frame whose payload has not its command's length (R177). -/
theorem exec_of_badLength {c : Instr} {n : Nat} (hc : frameOf c = some f) (hlength : payloadLength c = some n)
    (h : Receives f s) (hmax : f.payload.length ≤ 40) (hn : f.payload.length ≠ n) :
    exec c s = .next { s with link := answeredLink f .badLength [] s.link } := by
  cases c with
  | writeDefaultPolicy f' | writeFullAction f' | writeJhighLevel f' | writeWaitLimit f' | writeDlEnable f' | writeDlPeriod f'
  | writeDlTarget f' | writeEventEnable f' =>
    obtain rfl := Option.some.inj hc
    obtain rfl := Option.some.inj hlength
    exact congrArg Host.Outcome.next (writeParam_of_badLength _ _ h hmax hn)
  | softReset f' =>
    obtain rfl := Option.some.inj hc
    obtain rfl := Option.some.inj hlength
    exact softReset_of_badLength h hmax hn
  | identify f' | readStatus f' | readEvents f' | clearEvents f' | readCapture f' | ackCapture f' | readParam f'
  | stageRegion f' | clearStaged f' | revertStaged f' | applyRegions f' | setRegionState f' | readRegion f'
  | mark f' | release f' | rollback f' | discard f' | readCheckpoints f' | readJournal f' =>
    obtain rfl := Option.some.inj hc
    obtain rfl := Option.some.inj hlength
    exact congrArg Host.Outcome.next (execCommand_of_badLength _ _ h hmax hn)
  | unknownCommand code f' => cases hlength
  | _ => cases hc

/-- A journal-dependent command of the right length while the journal is NOT READY (R86, R177). -/
theorem exec_of_notReady {c : Instr} {n : Nat} (hc : frameOf c = some f) (hlength : payloadLength c = some n)
    (h : Receives f s) (hmax : f.payload.length ≤ 40) (hn : f.payload.length = n) (hdependent : journalDependent c)
    (hready : s.journal.readiness ≠ .ready) :
    exec c s = .next { s with link := answeredLink f .notReady [] s.link } := by
  cases c with
  | mark f' | release f' | rollback f' | discard f' | readJournal f' =>
    obtain rfl := Option.some.inj hc
    obtain rfl := Option.some.inj hlength
    exact congrArg Host.Outcome.next (execCommand_of_notReady _ h hmax hn hready)
  | _ => exact hdependent.elim

end

/-- Settles O44. -/
theorem genericChecksComeFirst : Obligations.GenericChecksComeFirst := by
  intro s f hreceives hmax
  refine ⟨fun code hcode => exec_unknownCommand hcode hreceives hmax, fun c length hc hlength => ⟨fun hn => ?_, ?_⟩⟩
  · exact exec_of_badLength hc hlength hreceives hmax hn
  · exact exec_of_notReady hc hlength hreceives hmax

end Sys2Proof.Machine
end

section
/-!
PROOFS. The commands that report: their bytes, and the clearing of flags and of the capture record (R147, R155, R183, R185, R186,
R191).
-/

namespace Sys2Proof.Machine

/-! ## Bytes -/

theorem toNat_append_eq {m n : Nat} (x : BitVec m) (y : BitVec n) : (x ++ y).toNat = x.toNat * 2 ^ n + y.toNat := by
  rw [BitVec.toNat_append, ← Nat.shiftLeft_add_eq_or_of_lt y.isLt x.toNat, Nat.shiftLeft_eq]

/-- A byte put together from four bits and two two-bit codes (R191). -/
theorem packedByte_eq (a b c d : Bool) (v w : BitVec 2) :
    BitVec.ofBool a ++ BitVec.ofBool b ++ BitVec.ofBool c ++ BitVec.ofBool d ++ v ++ w =
      BitVec.ofNat 8 (128 * a.toNat + 64 * b.toNat + 32 * c.toNat + 16 * d.toNat + 4 * v.toNat + w.toNat) := by
  apply BitVec.eq_of_toNat_eq
  have ha := a.toNat_lt
  have hb := b.toNat_lt
  have hc := c.toNat_lt
  have hd := d.toNat_lt
  have hv := v.isLt
  have hw := w.isLt
  simp only [toNat_append_eq, BitVec.toNat_ofBool, BitVec.toNat_ofNat]
  omega

theorem weight_eq (b : Bool) (n : Nat) : (if b = true then n else 0) = n * b.toNat := by
  cases b <;> simp

/-- Byte 0 of READ-STATUS as a sum of its fields (R191). -/
theorem statusByte_eq (s : State) :
    statusByte s =
      BitVec.ofNat 8
        ((if s.journal.readiness = .ready then 128 else 0) + (if s.engine.lostrb then 64 else 0) +
          (if s.events.capture = none then 0 else 32) + (if s.regions.dirty then 16 else 0) +
          4 * (match s.engine.state with | .idle => 0 | .drain => 1 | .restore => 2 | .failed => 3) +
          (match s.timer.state with | .off => 0 | .running => 1 | .warned => 2 | .suspended => 3)) := by
  have hready : (if s.journal.readiness = .ready then 128 else 0) = 128 * (journalIsReady s).toNat := by
    rw [← weight_eq, journalIsReady]
    simp only [decide_eq_true_eq]
  have hcapture : (if s.events.capture = none then 0 else 32) = 32 * s.events.capture.isSome.toNat := by
    cases s.events.capture <;> rfl
  have hengine : (match s.engine.state with | .idle => 0 | .drain => 1 | .restore => 2 | .failed => 3) =
      (engineCode s.engine.state).toNat := by
    cases s.engine.state <;> rfl
  have htimer : (match s.timer.state with | .off => 0 | .running => 1 | .warned => 2 | .suspended => 3) =
      (timerCode s.timer.state).toNat := by
    cases s.timer.state <;> rfl
  rw [statusByte, packedByte_eq, hready, hcapture, hengine, htimer, weight_eq, weight_eq]

theorem byteAddress_toNat (address : BitVec 30) : (byteAddress address).toNat = 4 * address.toNat := by
  have happend := toNat_append_eq address 0#2
  rw [byteAddress, happend]
  simp only [BitVec.toNat_ofNat]
  omega

theorem hostStatusCode_eq (reason : Reason) :
    hostStatusCode (reasonStatus reason) = if reason = .preReadFault ∨ reason = .memFault then 0x02#8 else 0x01#8 := by
  cases reason <;> rfl

theorem kindCode_eq (kind : RequestKind) : kindCode kind = if kind = .read then 0x00#8 else 0x01#8 := by
  cases kind <;> rfl

theorem regionCode_eq (region : Option RegionIndex) :
    regionCode region = match region with | none => 0xFF#8 | some i => BitVec.ofNat 8 i.val := by
  cases region <;> rfl

/-- The six bytes of an open checkpoint (R183). -/
def openBytes (x : Checkpoint) : List Byte := be16 x.epoch.toNat ++ be16 x.mark ++ be16 x.distance

theorem checkpointBytes_some (x : Checkpoint) : checkpointBytes (some x) = openBytes x := by
  simp only [checkpointBytes, openBytes, bytes16_eq x.epoch, bytes16_ofNat]

/-- The slots beyond the depth are zero (R183). -/
theorem checkpointSlots_eq (n : Nat) :
    ∀ checkpoints : List Checkpoint, checkpoints.length ≤ n →
      ((List.range n).flatMap fun k => checkpointBytes checkpoints[k]?) =
        checkpoints.flatMap openBytes ++ List.replicate (6 * (n - checkpoints.length)) 0x00#8 := by
  induction n with
  | zero =>
    intro checkpoints h
    obtain rfl := List.length_eq_zero_iff.mp (Nat.le_zero.mp h)
    rfl
  | succ n ih =>
    intro checkpoints h
    rw [List.range_succ_eq_map, List.flatMap_cons, List.flatMap_map]
    cases checkpoints with
    | nil =>
      have hrest := ih [] (Nat.zero_le n)
      simp only [List.getElem?_nil] at hrest ⊢
      rw [hrest]
      simp only [checkpointBytes, List.flatMap_nil, List.nil_append, List.length_nil, Nat.sub_zero, Nat.mul_succ,
        Nat.add_comm _ 6, List.replicate_add]
      rfl
    | cons x rest =>
      have hrest := ih rest (Nat.le_of_succ_le_succ h)
      simp only [List.getElem?_cons_zero, List.getElem?_cons_succ]
      rw [hrest, checkpointBytes_some, List.flatMap_cons, List.append_assoc, List.length_cons, Nat.add_sub_add_right]

/-! ## Reports -/

/-- A command without payload that only answers (R148, R154, R175, R191). -/
theorem execCommand_report {f : Frame} {s : State} {bytes : State → List Byte} (h : Receives f s) (hpayload : f.payload = []) :
    execCommand f 0 false (fun s => accept (bytes s) s) s = { s with link := answeredLink f .done (bytes s) s.link } :=
  execCommand_of_receives (n := 0) h (by simp [hpayload]) (by decide) (fun hfalse => absurd hfalse Bool.false_ne_true) _

theorem statusPayload_eq (s : State) :
    statusPayload s =
      [statusByte s, BitVec.ofNat 8 s.stack.checkpoints.length] ++
        be16 (currentEpoch s).toNat ++ be16 s.stack.nextEpoch.toNat ++ be16 s.journal.head ++
        be16 ((s.journal.head + s.journal.ring.length) % 1024) ++ be16 s.journal.ring.length ++
        [BitVec.ofNat 8 s.admission.waitList.length, BitVec.ofNat 8 s.tracker.hosts.length] ++
        be16 s.events.flags.toNat := by
  rw [statusPayload, flagBytes_eq, bytes16_ofNat, bytes16_ofNat, bytes16_ofNat, bytes16_eq, bytes16_eq]
  rfl

theorem capturePayload_some (x : Capture) :
    capturePayload (some x) =
      [0x01#8, reasonCode x.reason, if x.reason = .preReadFault ∨ x.reason = .memFault then 0x02#8 else 0x01#8,
          BitVec.ofNat 8 x.initiator.val, BitVec.ofNat 8 x.tag.val, if x.kind = .read then 0x00#8 else 0x01#8] ++
        be32 (4 * x.address.toNat) ++ [match x.region with | none => 0xFF#8 | some i => BitVec.ofNat 8 i.val] ++
        be16 x.epoch.toNat ++ [BitVec.ofNat 8 x.further] := by
  rw [capturePayload, hostStatusCode_eq, kindCode_eq, regionCode_eq, bytes32_eq, byteAddress_toNat, bytes16_eq]
  rfl

theorem checkpointsPayload_eq {s : State} (h : s.stack.checkpoints.length ≤ 4) :
    checkpointsPayload s =
      [BitVec.ofNat 8 s.stack.checkpoints.length] ++ be16 s.stack.nextEpoch.toNat ++
        (s.stack.checkpoints.flatMap openBytes) ++ List.replicate (6 * (4 - s.stack.checkpoints.length)) 0x00#8 := by
  have hslots : ([0, 1, 2, 3].flatMap fun k => checkpointBytes s.stack.checkpoints[k]?) = _ :=
    checkpointSlots_eq 4 s.stack.checkpoints h
  rw [checkpointsPayload, hslots, bytes16_eq, ← List.append_assoc]
  rfl

/-- Settles O45. -/
theorem readsAnswerTheirBytes : Obligations.ReadsAnswerTheirBytes := by
  intro s f hreceives hpayload
  refine ⟨congrArg Host.Outcome.next (execCommand_report hreceives hpayload), ?status, ?events, fun hnone => ?invalid,
    fun x hx => ?valid, fun hdepth => ?checkpoints⟩
  case status =>
    refine congrArg Host.Outcome.next ((execCommand_report hreceives hpayload).trans ?_)
    have hbytes := statusPayload_eq s
    rw [statusByte_eq] at hbytes
    exact congrArg (fun bytes => { s with link := answeredLink f .done bytes s.link }) hbytes
  case events =>
    refine congrArg Host.Outcome.next ((execCommand_report hreceives hpayload).trans ?_)
    rw [flagBytes_eq, flagBytes_eq]
  case invalid =>
    refine congrArg Host.Outcome.next ((execCommand_report hreceives hpayload).trans ?_)
    rw [hnone]
    rfl
  case valid =>
    refine congrArg Host.Outcome.next ((execCommand_report hreceives hpayload).trans ?_)
    rw [hx]
    exact congrArg (fun bytes => { s with link := answeredLink f .done bytes s.link }) (capturePayload_some x)
  case checkpoints =>
    refine congrArg Host.Outcome.next ((execCommand_report hreceives hpayload).trans ?_)
    rw [checkpointsPayload_eq hdepth]
    rfl

/-! ## Clearing -/

theorem payload16_toNat {f : Frame} {hi lo : Byte} (h : f.payload = [hi, lo]) :
    (payload16 f 0).toNat = 256 * hi.toNat + lo.toNat := by
  rw [payload16_of_pair h]
  exact word16_toNat hi lo

/-- Settles O48: the mask as a number, and the capture record as READ_CAPTURE reads it. -/
theorem flagsAndCaptureAreCleared : Obligations.FlagsAndCaptureAreCleared := by
  intro s f hreceives
  refine ⟨fun hi lo hpayload => ?_, fun hpayload => ⟨capturePayload s.events.capture, ?_, ?_⟩⟩
  case refine_1 =>
    have hexec : exec (.clearEvents f) s = .next (answered f (clearEventsReply (payload16 f 0) s)) :=
      congrArg Host.Outcome.next
        (execCommand_of_receives (n := 2) hreceives (by simp [hpayload]) (by decide)
          (fun hfalse => absurd hfalse Bool.false_ne_true) _)
    rw [hexec, clearEventsReply, ← BitVec.ofNat_toNat, payload16_toNat hpayload]
    by_cases hrange : 512 ≤ 256 * hi.toNat + lo.toNat
    · have hbad : 511 < 256 * hi.toNat + lo.toNat := hrange
      rw [if_pos hrange, if_pos hbad, answered_refuse]
    · have hgood : ¬511 < 256 * hi.toNat + lo.toNat := hrange
      rw [if_neg hrange, if_neg hgood, ← flagBytes_eq]
      rfl
  case refine_2 => exact congrArg Host.Outcome.next (execCommand_report hreceives hpayload)
  case refine_3 =>
    exact congrArg Host.Outcome.next
      (execCommand_of_receives (n := 0) hreceives (by simp [hpayload]) (by decide)
        (fun hfalse => absurd hfalse Bool.false_ne_true) _)

end Sys2Proof.Machine
end

section
/-!
PROOFS. The writes of the parameters, of DL_ENABLE among them, and STAGE_REGION (R20, R23, R30, R53, R55, R84, R134, R138, R139,
R149, R189).
-/

namespace Sys2Proof.Machine

/-! ## Parameters -/

theorem paramOfByte_of_unknown {identifier : Byte} (h : identifier.toNat = 0 ∨ 9 ≤ identifier.toNat) :
    paramOfByte identifier = none := by
  refine Option.eq_none_iff_forall_ne_some.mpr fun p hp => ?_
  unfold paramOfByte at hp
  split at hp <;> cases hp <;> omega

/-- In a value of 0 or 1 the lower byte says which (R187). -/
theorem small_value_eq_zero_iff {hi lo : Byte} (h : 256 * hi.toNat + lo.toNat ≤ 1) :
    256 * hi.toNat + lo.toNat = 0 ↔ lo = 0x00#8 := by
  rw [BitVec.toNat_eq, BitVec.toNat_ofNat]
  omega

theorem small_value_ne_zero_iff {hi lo : Byte} (h : 256 * hi.toNat + lo.toNat ≤ 1) :
    256 * hi.toNat + lo.toNat ≠ 0 ↔ lo = 0x01#8 := by
  rw [BitVec.toNat_eq, BitVec.toNat_ofNat]
  omega

theorem clears_everything : clears .everything = fun _ _ _ => true := rfl

theorem storeDefaultPolicy_eq (v : Nat) (s : State) :
    storeDefaultPolicy v s =
      { s with
        params := { s.params with defaultPolicy := if v = 0 then .pass else .refuse }
        admission := releasedWhere (fun _ _ _ => true) s } := by
  rw [storeDefaultPolicy, release_eq, clears_everything]
  rfl

theorem storeFullAction_eq (v : Nat) (s : State) :
    storeFullAction v s =
      { s with
        params := { s.params with fullAction := if v = 0 then .wait else .refuse }
        admission :=
          if s.params.fullAction = .wait ∧ v ≠ 0 then releasedWhere (fun reason _ _ => reason == .jfull) s
          else s.admission } := by
  by_cases hrelease : s.params.fullAction = .wait ∧ v ≠ 0
  · simp only [storeFullAction, if_pos hrelease, release_eq, clears_journal]
    rfl
  · simp only [storeFullAction, if_neg hrelease]

/-- Settles O49: each row stores its value, and two of them release. -/
theorem parameterWritesTakeEffect : Obligations.ParameterWritesTakeEffect := by
  refine ⟨fun s f hi lo hreceives => ⟨?jhighLevel, ?waitLimit, ?dlPeriod, ?dlTarget, ?eventEnable⟩,
    fun s f hi lo hreceives => ⟨?defaultPolicy, ?fullAction⟩,
    fun s f identifier hi lo hreceives hpayload hunknown c hc => ?unknown⟩
  case jhighLevel | waitLimit | dlPeriod | eventEnable =>
    exact fun hpayload => congrArg Host.Outcome.next (writeParam_of_receives hreceives hpayload rfl)
  case dlTarget =>
    refine fun hpayload => congrArg Host.Outcome.next ((writeParam_of_receives hreceives hpayload rfl).trans ?_)
    refine ite_congr rfl (fun hrange => ?_) fun _ => rfl
    simp only [storeDlTarget, small_value_eq_zero_iff hrange]
  case defaultPolicy =>
    refine fun hpayload => congrArg Host.Outcome.next ((writeParam_of_receives hreceives hpayload rfl).trans ?_)
    refine ite_congr rfl (fun hrange => ?_) fun _ => rfl
    simp only [storeDefaultPolicy_eq, small_value_eq_zero_iff hrange]
  case fullAction =>
    refine fun hpayload => congrArg Host.Outcome.next ((writeParam_of_receives hreceives hpayload rfl).trans ?_)
    refine ite_congr rfl (fun hrange => ?_) fun _ => rfl
    simp only [storeFullAction_eq, small_value_eq_zero_iff hrange, small_value_ne_zero_iff hrange]
  case unknown =>
    have hbad (p : Param) (store : Nat → State → State) :
        writeParam p store f s = { s with link := answeredLink f .badArg [] s.link } :=
      writeParam_of_unknown hreceives hpayload (paramOfByte_of_unknown hunknown)
    simp only [List.mem_cons, List.not_mem_nil, or_false] at hc
    rcases hc with rfl | rfl | rfl | rfl | rfl | rfl | rfl | rfl <;>
      exact congrArg Host.Outcome.next (hbad _ _)

/-! ## DL_ENABLE -/

/-- The timer after a write of DL_ENABLE (R138). -/
def timerAfterEnable (enable : Bool) (s : State) : Timer :=
  if s.params.dlEnable = enable then s.timer
  else if enable = false then { s.timer with state := .off, elapsed := 0, divider := 0 }
  else if depth s = 0 then s.timer
  else if s.engine.state = .idle then { state := .running, elapsed := 0, divider := 0, period := 2 ^ s.params.dlPeriod }
  else { s.timer with state := .suspended, elapsed := 0, divider := 0 }

theorem storeDlEnable_eq {v : Nat} {enable : Bool} (h : decide (v ≠ 0) = enable) (s : State) :
    storeDlEnable v s =
      { s with params := { s.params with dlEnable := enable }, timer := timerAfterEnable enable s } := by
  rw [storeDlEnable, timerAfterEnable, h]
  by_cases hsame : s.params.dlEnable = enable
  · rw [if_pos hsame, if_pos hsame, ← hsame]
  · rw [if_neg hsame, if_neg hsame, timerAtEnable]
    cases enable with
    | false => rfl
    | true =>
      simp only [Bool.true_eq_false, if_false, depth]
      by_cases hdepth : s.stack.checkpoints.length = 0
      · simp only [hdepth, if_true]
      · by_cases hidle : s.engine.state = .idle
        · simp only [hdepth, hidle, if_true, if_false, restartTimer_eq, restarted]
        · simp only [hdepth, hidle, if_true, if_false, suspendTimer_eq]

/-- Settles O50. -/
theorem dlEnableActsAtOnce : Obligations.DlEnableActsAtOnce := by
  intro s f hi lo hreceives hpayload
  have hwrite := writeParam_of_receives (p := .dlEnable) (store := storeDlEnable) hreceives hpayload rfl
  refine ⟨fun hrange => congrArg Host.Outcome.next (hwrite.trans (if_neg (Nat.not_le.mpr hrange))), fun hrange => ?_⟩
  have henable : decide (256 * hi.toNat + lo.toNat ≠ 0) = (lo == 0x01#8) := by
    rw [decide_eq_decide.mpr (small_value_ne_zero_iff hrange)]
    rfl
  have hstore := storeDlEnable_eq henable s
  refine ⟨_, congrArg Host.Outcome.next (hwrite.trans (if_pos hrange)), by rw [hstore], ?_⟩
  have htimer : (storeDlEnable (256 * hi.toNat + lo.toNat) s).timer = timerAfterEnable (lo == 0x01#8) s := by rw [hstore]
  simp only [htimer, timerAfterEnable]
  refine ⟨fun hsame => if_pos hsame, fun hon hlo => ?_, fun hoff hlo => ⟨fun hdepth => ?_, fun hdepth hidle => ?_,
    fun hdepth hidle => ?_⟩⟩
  · subst hlo
    simp [hon]
  · subst hlo
    simp [hoff, hdepth]
  · subst hlo
    simp [hoff, Nat.ne_of_gt hdepth, hidle]
  · subst hlo
    simp [hoff, Nat.ne_of_gt hdepth, hidle]

end Sys2Proof.Machine
end

section
/-!
PROOFS. STAGE_REGION: the ranges of its arguments, and the one entry that it writes (R20, R30, R182).
-/

namespace Sys2Proof.Machine

/-! ## Arguments -/

theorem word32_toNat (b3 b2 b1 b0 : Byte) :
    (word32 b3 b2 b1 b0).toNat = 16777216 * b3.toNat + 65536 * b2.toNat + 256 * b1.toNat + b0.toNat := by
  have happend : (word32 b3 b2 b1 b0).toNat = ((b3.toNat * 2 ^ 8 + b2.toNat) * 2 ^ 8 + b1.toNat) * 2 ^ 8 + b0.toNat := by
    rw [← toNat_append_eq, ← toNat_append_eq, ← toNat_append_eq]
    rfl
  rw [happend]
  omega

theorem lineOfField_eq (v : BitVec 32) :
    lineOfField v = if v.toNat < 134217728 then some (BitVec.ofNat 27 v.toNat) else none := by
  have hline : v.extractLsb' 0 27 = BitVec.ofNat 27 v.toNat := by
    apply BitVec.eq_of_toNat_eq
    simp [BitVec.extractLsb'_toNat]
  rw [lineOfField, hline]
  exact if_congr Nat.lt_succ_iff.symm rfl rfl

theorem lineOfField_eq_some {v : BitVec 32} {line : LineAddr} (h : lineOfField v = some line) :
    v.toNat < 134217728 ∧ line.toNat = v.toNat := by
  rw [lineOfField_eq] at h
  split at h
  · rename_i hlt
    obtain rfl := Option.some.inj h
    rw [BitVec.toNat_ofNat]
    omega
  · cases h

theorem regionIndexOfByte_eq_some {b : Byte} {i : RegionIndex} : regionIndexOfByte b = some i ↔ b.toNat = i.val := by
  unfold regionIndexOfByte
  split
  · rw [Option.some.injEq, Fin.ext_iff]
  · rename_i hlt
    have hi := i.isLt
    simp only [reduceCtorEq, false_iff]
    omega

theorem modeOfByte_eq (b : Byte) :
    modeOfByte b =
      if b.toNat < 3 then some (if b.toNat = 0 then .pass else if b.toNat = 1 then .journal else .readOnly) else none := by
  unfold modeOfByte
  split
  case h_1 h | h_2 h | h_3 h =>
    rw [h]
    rfl
  case h_4 hne0 hne1 hne2 =>
    have hlarge : ¬b.toNat < 3 := by
      intro hlt
      have hcases : b.toNat = 0 ∨ b.toNat = 1 ∨ b.toNat = 2 := by omega
      exact hcases.elim hne0 (Or.elim · hne1 hne2)
    rw [if_neg hlarge]

/-- The fields of a STAGE-REGION payload (R182). -/
theorem stageFields {f : Frame} {index b3 b2 b1 b0 l3 l2 l1 l0 mode mask : Byte}
    (h : f.payload = [index, b3, b2, b1, b0, l3, l2, l1, l0, mode, mask]) :
    payloadByte f 0 = index ∧ payload32 f 1 = word32 b3 b2 b1 b0 ∧ payload32 f 5 = word32 l3 l2 l1 l0 ∧
      payloadByte f 9 = mode ∧ payloadByte f 10 = mask := by
  simp only [payload32, payloadByte, h]
  exact ⟨rfl, rfl, rfl, rfl, rfl⟩

/-- All that a frame's arguments passed (R30). -/
theorem ranges_of_stageArguments {f : Frame} {i : RegionIndex} {e : RegionEntry} (h : stageArguments f = some (i, e)) :
    (payloadByte f 0).toNat < 12 ∧ (payload32 f 1).toNat < 134217728 ∧ (payload32 f 5).toNat < 134217728 ∧
      (payload32 f 1).toNat ≤ (payload32 f 5).toNat ∧ (payloadByte f 9).toNat < 3 := by
  unfold stageArguments at h
  split at h
  · rename_i hindex hbase hlimit hmode
    split at h
    · rename_i hle
      have hi := regionIndexOfByte_eq_some.mp hindex
      obtain ⟨hbase, hbaseNat⟩ := lineOfField_eq_some hbase
      obtain ⟨hlimit, hlimitNat⟩ := lineOfField_eq_some hlimit
      rw [modeOfByte_eq] at hmode
      split at hmode
      · rename_i hmode'
        rw [BitVec.le_def, hbaseNat, hlimitNat] at hle
        exact ⟨by omega, hbase, hlimit, hle, hmode'⟩
      · cases hmode
    · cases h
  · cases h

/-- The arguments of a frame that passes every check (R30). -/
theorem stageArguments_of_ranges {f : Frame} {i : RegionIndex} (hindex : (payloadByte f 0).toNat = i.val)
    (hbase : (payload32 f 1).toNat < 134217728) (hlimit : (payload32 f 5).toNat < 134217728)
    (hle : (payload32 f 1).toNat ≤ (payload32 f 5).toNat) (hmode : (payloadByte f 9).toNat < 3) :
    stageArguments f =
      some
        (i,
          { valid := true, base := BitVec.ofNat 27 (payload32 f 1).toNat, limit := BitVec.ofNat 27 (payload32 f 5).toNat
            mode :=
              if (payloadByte f 9).toNat = 0 then .pass else if (payloadByte f 9).toNat = 1 then .journal else .readOnly
            mask := payloadByte f 10 }) := by
  have hordered : BitVec.ofNat 27 (payload32 f 1).toNat ≤ BitVec.ofNat 27 (payload32 f 5).toNat := by
    rw [BitVec.le_def, BitVec.toNat_ofNat, BitVec.toNat_ofNat]
    omega
  unfold stageArguments
  rw [regionIndexOfByte_eq_some.mpr hindex, lineOfField_eq, lineOfField_eq, modeOfByte_eq, if_pos hbase, if_pos hlimit,
    if_pos hmode]
  exact if_pos hordered

/-! ## The entry -/

theorem table_get_set (table : Vector RegionEntry 12) (i j : RegionIndex) (e : RegionEntry) :
    (table.set i e).get j = if j = i then e else table.get j := by
  rw [Vector.get_eq_getElem, Vector.get_eq_getElem, Vector.getElem_set]
  exact if_congr (by rw [Fin.ext_iff, eq_comm]) rfl rfl

theorem dirtyExact_editStaged (staged : Vector RegionEntry 12) (s : State) : dirtyExact (editStaged staged s) :=
  decide_eq_true_iff

theorem exec_stageRegion {f : Frame} {s : State} (h : Receives f s) (hlength : f.payload.length = 11) :
    exec (.stageRegion f) s = .next (answered f (stageRegionReply f s)) :=
  congrArg Host.Outcome.next
    (execCommand_of_receives (n := 11) h hlength (by decide) (fun hfalse => absurd hfalse Bool.false_ne_true) _)

/-- Settles O51: the arguments are all that the command looks at. -/
theorem stageRegionWritesOneEntry : Obligations.StageRegionWritesOneEntry := by
  intro s f index b3 b2 b1 b0 l3 l2 l1 l0 mode mask hreceives hpayload base limit hbase hlimit
  obtain ⟨hfield0, hfield1, hfield5, hfield9, hfield10⟩ := stageFields hpayload
  have hbaseField : (payload32 f 1).toNat = base := by rw [hfield1, word32_toNat, hbase]
  have hlimitField : (payload32 f 5).toNat = limit := by rw [hfield5, word32_toNat, hlimit]
  have hexec := exec_stageRegion hreceives (by simp [hpayload])
  refine ⟨fun hbad => ?_, fun i hindex hbaseRange hlimitRange hle hmode => ?_⟩
  · have hnone : stageArguments f = none := by
      refine Option.eq_none_iff_forall_ne_some.mpr fun ⟨i, e⟩ hsome => ?_
      have hranges := ranges_of_stageArguments hsome
      rw [hbaseField, hlimitField, hfield0, hfield9] at hranges
      omega
    rw [hexec, stageRegionReply, hnone, answered_refuse]
  · have hsome := stageArguments_of_ranges (f := f) (i := i) (by rw [hfield0, hindex]) (by rwa [hbaseField])
      (by rwa [hlimitField]) (by rwa [hbaseField, hlimitField]) (by rwa [hfield9])
    rw [hbaseField, hlimitField, hfield9, hfield10] at hsome
    rw [hexec, stageRegionReply, hsome]
    exact ⟨_, rfl, rfl, rfl, rfl, fun j => table_get_set s.regions.staged i j _, dirtyExact_editStaged _ s⟩

end Sys2Proof.Machine
end

section
/-!
PROOFS. The periods that execute nothing: errors, repeats and fetches, and SDO at every instant (R158, R159, R163, R166, R167,
R169, R174).
-/

namespace Sys2Proof.Machine

/-! ## Errors and repeats -/

section
variable {s : State}

theorem linkListens_live (hporn : s.porn = true) (hquiesce : s.link.quiesce = none) : linkListens .live s = true :=
  (linkListens_iff .live s).mpr ⟨hporn, hquiesce, rfl⟩

theorem exec_frameError {bits : List Bool} (hporn : s.porn = true) (hquiesce : s.link.quiesce = none)
    (herror : readPeriod bits = .error) : exec (.frameError .live bits) s = .next (storeFrameErr s) :=
  congrArg Host.Outcome.next (if_pos ⟨linkListens_live hporn hquiesce, herror⟩)

theorem exec_repeatFrame {f : Frame} (code : BitVec 7) (hporn : s.porn = true) (hquiesce : s.link.quiesce = none)
    (hstart : f.start = .live) (hmax : f.payload.length ≤ 40) (htoggle : f.toggle ≠ s.link.expected) :
    exec (.repeatFrame code f) s = .next (storeRepeat s) :=
  congrArg Host.Outcome.next (receiveFrame_of_repeat (hstart ▸ linkListens_live hporn hquiesce) hmax htoggle id)

/-! ## Fetches -/

/-- A fetch period of a link that is usable (R167). -/
theorem exec_fetchPeriod (clocked : Nat) (hporn : s.porn = true) (hquiesce : s.link.quiesce = none) :
    exec (.fetchPeriod .live clocked) s =
      .next { s with
        link :=
          { s.link with
            shifted := shiftedOut s.link.fetchResponse clocked
            fetchResponse := s.link.fetchResponse.filter fun r => !fetchesWhole r clocked } } := by
  have hlistens : ¬quiescing s = true := by simp [quiescing, hquiesce]
  exact congrArg Host.Outcome.next ((if_pos hporn).trans (if_neg hlistens))

/-- A fetch period in a quiesce, or begun in one, carries zeros (R174). -/
theorem exec_fetchPeriod_of_quiesce {start : PeriodStart} (clocked : Nat) (hporn : s.porn = true)
    (hstart : start ≠ .acrossPorn) (h : s.link.quiesce ≠ none ∨ start = .inQuiesce) :
    exec (.fetchPeriod start clocked) s =
      .next { s with link := { s.link with shifted := List.replicate clocked false } } := by
  cases start with
  | acrossPorn => exact absurd rfl hstart
  | inQuiesce => exact congrArg Host.Outcome.next (if_pos hporn)
  | live =>
    have hquiescing : quiescing s = true := by simpa [quiescing, Option.isSome_iff_ne_none] using h
    exact congrArg Host.Outcome.next ((if_pos hporn).trans (if_pos hquiescing))

theorem exec_fetchPeriod_acrossPorn (clocked : Nat) (hporn : s.porn = true) :
    exec (.fetchPeriod .acrossPorn clocked) s = .next s :=
  congrArg Host.Outcome.next (if_pos hporn)

end

theorem fetchBit_some (x : LinkResponse) (i : Nat) :
    fetchBit (some x) i = ((bitsOfBytes (frameBytes x.toggle (statusCode x.status) x.payload))[i]?).getD false :=
  List.getD_eq_getElem?_getD ..

theorem fetchBit_none (i : Nat) : fetchBit none i = false := rfl

theorem fetchesWhole_iff (x : LinkResponse) (clocked : Nat) :
    fetchesWhole x clocked = true ↔ 8 * (x.payload.length + 3) ≤ clocked := by
  have hlength : (responseBytes x).length = x.payload.length + 3 := by
    simp [responseBytes, frameBytes, frameBody]
  rw [fetchesWhole, hlength, decide_eq_true_iff]

theorem mem_shiftedOut_none {clocked : Nat} {bit : Bool} (h : bit ∈ shiftedOut none clocked) : bit = false := by
  obtain ⟨i, -, rfl⟩ := List.mem_map.mp h
  rfl

/-! ## SDO in a fetch period -/

/-- The level in a fetch period that the link takes (R167). -/
theorem sdoLevel_fetching {s : State} (hporn : s.porn = true) (hquiesce : s.link.quiesce = none) (after : List Bool)
    (fallen : Bool) :
    sdoLevel s .live (bitsOfByte fetchMarker ++ after) fallen =
      (decide (8 ≤ sdoPlace (bitsOfByte fetchMarker ++ after) fallen) &&
        fetchBit s.link.fetchResponse (sdoPlace (bitsOfByte fetchMarker ++ after) fallen - 8)) := by
  unfold sdoLevel
  rw [readPeriod_fetchMarker]
  simp only [linkListens_live hporn hquiesce, Bool.true_and]

/-- The bit `k` after the marker, once SCLK has fallen, and until the next one has been sampled and it falls again (R158). -/
theorem sdoLevel_of_place {s : State} (hporn : s.porn = true) (hquiesce : s.link.quiesce = none) {after : List Bool}
    {fallen : Bool} {k : Nat} (hplace : sdoPlace (bitsOfByte fetchMarker ++ after) fallen = 8 + k) :
    sdoLevel s .live (bitsOfByte fetchMarker ++ after) fallen = fetchBit s.link.fetchResponse k := by
  rw [sdoLevel_fetching hporn hquiesce, hplace, decide_eq_true (Nat.le_add_right 8 k), Bool.true_and,
    Nat.add_sub_cancel_left]

/-- Settles O43: FRAME_ERROR and REPEAT_FRAME, FETCH_PERIOD, and SDO. -/
theorem periodsWithoutExecution : Obligations.PeriodsWithoutExecution := by
  refine ⟨fun s hporn hquiesce => ⟨fun bits herror => exec_frameError hporn hquiesce herror,
    fun code f hstart hmax htoggle => exec_repeatFrame code hporn hquiesce hstart hmax htoggle⟩,
    fun s clocked hporn => ⟨fun hquiesce => ?fetch,
      fun start hstart h => exec_fetchPeriod_of_quiesce clocked hporn hstart h, exec_fetchPeriod_acrossPorn clocked hporn⟩,
    fun s => ⟨sdo_high s, fun hporn line => sdo_of_not_porn hporn line, fun hporn => ⟨fun start sampled fallen h => ?low,
      fun hquiesce => ⟨?marker, fun after bit level hlevel => ?bits⟩⟩⟩⟩
  case fetch =>
    refine ⟨_, exec_fetchPeriod clocked hporn hquiesce, rfl, shiftedOut_length _ _, fun hnone => ?_, fun x hx => ⟨?_, ?_⟩⟩
    · simp only [hnone]
      exact ⟨rfl, fun bit hbit => mem_shiftedOut_none hbit⟩
    · simp only [hx, Option.filter_some, Bool.not_eq_true', ← fetchesWhole_iff]
      cases fetchesWhole x clocked <;> rfl
    · intro i hi
      simp only [hx, shiftedOut_getElem? _ hi, fetchBit_some]
  case low =>
    rw [sdo_low hporn, sdoLevel_of_not_fetching fallen]
    refine h.imp id fun h => (linkListens_eq_false start s).mpr (.inr ?_)
    exact h.symm
  case marker =>
    have hlow : sdoLevel s .live (bitsOfByte fetchMarker ++ []) false = false := by
      rw [sdoLevel_fetching hporn hquiesce]
      rfl
    rw [sdo_low hporn]
    exact congrArg Sdo.driven hlow
  case bits =>
    have hbit : level = fetchBit s.link.fetchResponse after.length := by
      cases hresponse : s.link.fetchResponse with
      | none =>
        rw [hresponse] at hlevel
        exact hlevel
      | some x =>
        rw [hresponse] at hlevel
        rw [fetchBit_some]
        exact hlevel
    have hmarker : (bitsOfByte fetchMarker).length = 8 := rfl
    rw [sdo_low hporn, sdo_low hporn, hbit, List.append_assoc]
    refine ⟨congrArg Sdo.driven (sdoLevel_of_place hporn hquiesce ?_), congrArg Sdo.driven (sdoLevel_of_place hporn hquiesce ?_)⟩
    · simp [sdoPlace, hmarker]
    · simp [sdoPlace, hmarker]

end Sys2Proof.Machine
end

section
/-!
PROOFS. The commands that read a parameter, a region entry or a journal position back (R36, R89, R182, R184, R188).
-/

namespace Sys2Proof.Machine

/-- The part after a command that needs no journal (R165, R177). -/
theorem execCommand_eq_answered {f : Frame} {s : State} {n : Nat} (h : Receives f s) (hlength : f.payload.length = n)
    (hmax : n ≤ 40) (own : State → Reply) : execCommand f n false own s = answered f (own s) :=
  execCommand_of_receives h hlength hmax (fun hfalse => absurd hfalse Bool.false_ne_true) own

theorem payloadByte_of_single {f : Frame} {b : Byte} (h : f.payload = [b]) : payloadByte f 0 = b := by
  simp [payloadByte, h]

theorem payloadBytes_of_pair {f : Frame} {b c : Byte} (h : f.payload = [b, c]) :
    payloadByte f 0 = b ∧ payloadByte f 1 = c := by
  simp [payloadByte, h]

/-! ## Parameters -/

/-- The stored value of a parameter, by its codes (R181, R187). -/
theorem paramValue_eq (x : Params) (p : Param) :
    paramValue x p =
      match p with
      | .defaultPolicy => if x.defaultPolicy = .pass then 0 else 1
      | .fullAction => if x.fullAction = .wait then 0 else 1
      | .jhighLevel => x.jhighLevel
      | .waitLimit => x.waitLimit
      | .dlEnable => if x.dlEnable then 1 else 0
      | .dlPeriod => x.dlPeriod
      | .dlTarget => if x.dlTarget = .newest then 0 else 1
      | .eventEnable => x.eventEnable.toNat := by
  cases p with
  | defaultPolicy => cases h : x.defaultPolicy <;> simp [paramValue, h]
  | fullAction => cases h : x.fullAction <;> simp [paramValue, h]
  | dlTarget => cases h : x.dlTarget <;> simp [paramValue, h]
  | jhighLevel | waitLimit | dlEnable | dlPeriod | eventEnable => rfl

section
variable {f : Frame} {s : State} {identifier : Byte}

theorem exec_readParam (h : Receives f s) (hpayload : f.payload = [identifier]) :
    exec (.readParam f) s = .next (answered f (readParamReply identifier s)) := by
  rw [← payloadByte_of_single hpayload]
  exact congrArg Host.Outcome.next (execCommand_eq_answered (n := 1) h (by simp [hpayload]) (by decide) _)

theorem readParamReply_of_param {p : Param} (hp : paramOfByte identifier = some p) :
    readParamReply identifier s = accept (identifier :: be16 (paramValue s.params p)) s := by
  rw [readParamReply, hp]
  exact congrArg (fun bytes => accept (identifier :: bytes) s) (bytes16_ofNat _)

theorem readParamReply_of_unknown (hunknown : paramOfByte identifier = none) :
    readParamReply identifier s = refuse .badArg s := by
  rw [readParamReply, hunknown]

end

/-- Settles O46: the identifier names one of the eight parameters, or none. -/
theorem readParamAnswersTheValue : Obligations.ReadParamAnswersTheValue := by
  intro s f identifier hreceives hpayload
  have hnames {p : Param} (hp : paramOfByte identifier = some p) :
      exec (.readParam f) s =
        .next { s with link := answeredLink f .done (identifier :: be16 (paramValue s.params p)) s.link } := by
    rw [exec_readParam hreceives hpayload, readParamReply_of_param hp]
    rfl
  split
  case h_1 hidentifier | h_2 hidentifier | h_3 hidentifier | h_4 hidentifier | h_5 hidentifier | h_6 hidentifier
  | h_7 hidentifier | h_8 hidentifier =>
    have hparam := hnames (by rw [paramOfByte, hidentifier]; rfl)
    rwa [paramValue_eq] at hparam
  case h_9 hne1 hne2 hne3 hne4 hne5 hne6 hne7 hne8 =>
    have hunknown : identifier.toNat = 0 ∨ 9 ≤ identifier.toNat := by
      simp only [imp_false] at hne1 hne2 hne3 hne4 hne5 hne6 hne7 hne8
      omega
    rw [exec_readParam hreceives hpayload, readParamReply_of_unknown (paramOfByte_of_unknown hunknown), answered_refuse]

/-! ## Region entries -/

theorem lineBytes_eq (line : LineAddr) : lineBytes line = be32 line.toNat := by
  rw [lineBytes, bytes32_eq, BitVec.toNat_setWidth_of_le (by decide)]

/-- The table-select byte (R181). -/
theorem tableOfByte_of_le {g : Regions} {b : Byte} (h : b.toNat ≤ 1) :
    tableOfByte g b = some (if b = 0x00#8 then g.active else g.staged) := by
  have hzero : b = 0x00#8 ↔ b.toNat = 0 := BitVec.toNat_eq
  obtain hb | hb : b.toNat = 0 ∨ b.toNat = 1 := by omega
  · rw [tableOfByte, hb, if_pos (hzero.mpr hb)]
    rfl
  · rw [tableOfByte, hb, if_neg (mt hzero.mp (by omega))]
    rfl

theorem tableOfByte_of_two_le {g : Regions} {b : Byte} (h : 2 ≤ b.toNat) : tableOfByte g b = none := by
  unfold tableOfByte
  split
  case h_1 hb | h_2 hb => omega
  case h_3 => rfl

theorem regionIndexOfByte_eq_none {b : Byte} (h : 12 ≤ b.toNat) : regionIndexOfByte b = none :=
  dif_neg (Nat.not_lt.mpr h)

theorem regionPayload_eq (e : RegionEntry) (v : SoftwareState) :
    regionPayload e v =
      [if e.valid then 0x01#8 else 0x00#8] ++ be32 e.base.toNat ++ be32 e.limit.toNat ++
        [modeCode e.mode, e.mask, softwareStateCode v] := by
  rw [regionPayload, lineBytes_eq, lineBytes_eq]
  rfl

section
variable {f : Frame} {s : State} {index table : Byte}

theorem exec_readRegion (h : Receives f s) (hpayload : f.payload = [index, table]) :
    exec (.readRegion f) s = .next (answered f (readRegionReply f s)) :=
  congrArg Host.Outcome.next (execCommand_eq_answered (n := 2) h (by simp [hpayload]) (by decide) _)

theorem readRegionReply_of_ranges {i : RegionIndex} (hpayload : f.payload = [index, table])
    (hindex : index.toNat = i.val) (htable : table.toNat ≤ 1) :
    readRegionReply f s =
      accept
        (regionPayload ((if table = 0x00#8 then s.regions.active else s.regions.staged).get i) (s.regions.software.get i))
        s := by
  obtain ⟨hbyte0, hbyte1⟩ := payloadBytes_of_pair hpayload
  rw [readRegionReply, hbyte0, hbyte1, regionIndexOfByte_eq_some.mpr hindex, tableOfByte_of_le htable]

theorem readRegionReply_of_bad (hpayload : f.payload = [index, table]) (hbad : 12 ≤ index.toNat ∨ 2 ≤ table.toNat) :
    readRegionReply f s = refuse .badArg s := by
  obtain ⟨hbyte0, hbyte1⟩ := payloadBytes_of_pair hpayload
  rw [readRegionReply, hbyte0, hbyte1]
  cases hbad with
  | inl hindex => rw [regionIndexOfByte_eq_none hindex]
  | inr htable =>
    rw [tableOfByte_of_two_le htable]
    cases regionIndexOfByte index <;> rfl

end

/-! ## Journal positions -/

/-- Byte 0 of a record: the orphan bit over the code of its state (R181, R184). -/
theorem recordByte_eq (x : Record) :
    (0#5) ++ BitVec.ofBool (orphanBit x) ++ recordCode x.state =
      match x.state with
      | .reserved orphan => if orphan then 0x05#8 else 0x01#8
      | .valid _ => 0x02#8
      | .void => 0x03#8 := by
  cases hstate : x.state with
  | reserved orphan =>
    simp only [orphanBit, recordCode, hstate]
    cases orphan <;> rfl
  | valid pre | void =>
    simp only [orphanBit, recordCode, hstate]
    rfl

/-- Byte 7 of a record: the initiator over the region index (R184). -/
theorem originByte_eq (x : Record) :
    (0#1) ++ BitVec.ofNat 3 x.initiator.val ++ BitVec.ofNat 4 x.region.val =
      BitVec.ofNat 8 (16 * x.initiator.val + x.region.val) := by
  apply BitVec.eq_of_toNat_eq
  have hinitiator := x.initiator.isLt
  have hregion := x.region.isLt
  simp only [toNat_append_eq, BitVec.toNat_ofNat]
  omega

theorem preImageBytes_eq (x : Record) :
    preImageBytes x =
      match x.state with
      | .valid pre => pre.toList.flatMap fun w => be32 w.toNat
      | .reserved _ | .void => [] := by
  cases hstate : x.state with
  | valid pre =>
    rw [preImageBytes, hstate]
    exact congrArg pre.toList.flatMap (funext bytes32_eq)
  | reserved orphan | void => simp only [preImageBytes, hstate]

theorem journalPayload_some (x : Record) :
    journalPayload (some x) =
      [match x.state with
          | .reserved orphan => if orphan then 0x05#8 else 0x01#8
          | .valid _ => 0x02#8
          | .void => 0x03#8] ++
        be16 x.epoch.toNat ++ be32 x.line.toNat ++ [BitVec.ofNat 8 (16 * x.initiator.val + x.region.val)] ++
        (match x.state with
          | .valid pre => pre.toList.flatMap fun w => be32 w.toNat
          | .reserved _ | .void => []) := by
  have hline : bytes32 (x.line.setWidth 32) = be32 x.line.toNat := lineBytes_eq x.line
  rw [journalPayload, recordByte_eq, bytes16_eq, hline, originByte_eq, preImageBytes_eq]

theorem exec_readJournal {f : Frame} {s : State} {hi lo : Byte} (h : Receives f s) (hpayload : f.payload = [hi, lo])
    (hready : s.journal.readiness = .ready) :
    exec (.readJournal f) s = .next (answered f (readJournalReply (256 * hi.toNat + lo.toNat) s)) := by
  rw [← payload16_toNat hpayload]
  exact congrArg Host.Outcome.next
    (execCommand_of_receives (n := 2) h (by simp [hpayload]) (by decide) (fun _ => hready) _)

theorem readJournalReply_eq (position : Nat) (s : State) :
    readJournalReply position s =
      if 1024 ≤ position then refuse .badArg s else accept (journalPayload (recordAt s.journal position)) s := rfl

/-- Settles O47. -/
theorem tablesAndJournalReadBack : Obligations.TablesAndJournalReadBack := by
  intro s f hreceives
  refine ⟨fun index table hpayload => ⟨fun i hindex htable => ?entry, fun hbad => ?badEntry⟩,
    fun hi lo hpayload hready => ⟨fun hbad => ?badPosition, fun hrange => ⟨fun hfreed => ?freed, fun x hx => ?live⟩⟩⟩
  case entry =>
    rw [exec_readRegion hreceives hpayload, readRegionReply_of_ranges hpayload hindex htable, regionPayload_eq]
    split <;> rfl
  case badEntry =>
    rw [exec_readRegion hreceives hpayload, readRegionReply_of_bad hpayload hbad, answered_refuse]
  case badPosition =>
    rw [exec_readJournal hreceives hpayload hready, readJournalReply_eq, if_pos hbad, answered_refuse]
  case freed =>
    rw [exec_readJournal hreceives hpayload hready, readJournalReply_eq, if_neg (Nat.not_le.mpr hrange), hfreed]
    rfl
  case live =>
    rw [exec_readJournal hreceives hpayload hready, readJournalReply_eq, if_neg (Nat.not_le.mpr hrange), hx,
      journalPayload_some]
    rfl

end Sys2Proof.Machine
end

section
/-!
PROOFS. The other region commands: CLEAR_STAGED, REVERT_STAGED, APPLY_REGIONS and SET_REGION_STATE (R20, R28, R31 to R33, R35,
R53).
-/

namespace Sys2Proof.Machine

/-! ## The staged table -/

section
variable {f : Frame} {s : State}

theorem exec_clearStaged {index : Byte} (h : Receives f s) (hpayload : f.payload = [index]) :
    exec (.clearStaged f) s = .next (answered f (clearStagedReply f s)) :=
  congrArg Host.Outcome.next (execCommand_eq_answered (n := 1) h (by simp [hpayload]) (by decide) _)

theorem clearStagedReply_of_index {index : Byte} {i : RegionIndex} (hpayload : f.payload = [index])
    (hindex : index.toNat = i.val) :
    clearStagedReply f s = accept [] (editStaged (s.regions.staged.set i RegionEntry.invalid) s) := by
  rw [clearStagedReply, payloadByte_of_single hpayload, regionIndexOfByte_eq_some.mpr hindex]

theorem clearStagedReply_of_bad {index : Byte} (hpayload : f.payload = [index]) (hbad : 12 ≤ index.toNat) :
    clearStagedReply f s = refuse .badArg s := by
  rw [clearStagedReply, payloadByte_of_single hpayload, regionIndexOfByte_eq_none hbad]

theorem exec_revertStaged (h : Receives f s) (hpayload : f.payload = []) :
    exec (.revertStaged f) s = .next (answered f (accept [] (editStaged s.regions.active s))) :=
  congrArg Host.Outcome.next (execCommand_eq_answered (n := 0) h (by simp [hpayload]) (by decide) _)

/-- After a reversion the tables agree (R20, R32). -/
theorem editStaged_active (s : State) :
    editStaged s.regions.active s = { s with regions := { s.regions with staged := s.regions.active, dirty := false } } := by
  have hclean : decide (s.regions.active ≠ s.regions.active) = false := decide_eq_false (not_not_intro rfl)
  rw [editStaged, refreshDirty, hclean]

end

/-- Settles O52. -/
theorem stagedEntriesAreClearedAndReverted : Obligations.StagedEntriesAreClearedAndReverted := by
  intro s f hreceives
  refine ⟨fun index hpayload => ⟨fun hbad => ?bad, fun i hindex => ?cleared⟩, fun hpayload => ?reverted⟩
  case bad => rw [exec_clearStaged hreceives hpayload, clearStagedReply_of_bad hpayload hbad, answered_refuse]
  case cleared =>
    rw [exec_clearStaged hreceives hpayload, clearStagedReply_of_index hpayload hindex]
    exact ⟨_, rfl, rfl, rfl, rfl, fun j => table_get_set s.regions.staged i j _, dirtyExact_editStaged _ s⟩
  case reverted =>
    rw [exec_revertStaged hreceives hpayload, editStaged_active]
    rfl

/-! ## Promotion and software states -/

section
variable {f : Frame} {s : State}

theorem promote_eq (s : State) :
    promote s =
      { s with
        regions := { s.regions with active := s.regions.staged, dirty := false }
        admission := releasedWhere (fun _ _ _ => true) s } := by
  rw [promote, release_eq, clears_everything]
  rfl

theorem exec_applyRegions (h : Receives f s) (hpayload : f.payload = []) :
    exec (.applyRegions f) s = .next (answered f (applyRegionsReply s)) :=
  congrArg Host.Outcome.next (execCommand_eq_answered (n := 0) h (by simp [hpayload]) (by decide) _)

/-- The clearing of reason HOLD for one index (R53). -/
theorem clears_softwareState (i : RegionIndex) :
    clears (.softwareState i) = fun reason region _ => reason == .hold && region == some i := by
  funext reason region line
  simp only [clears, Bool.decide_and, beq_eq_decide]

theorem setSoftwareState_eq (i : RegionIndex) (v : SoftwareState) (s : State) :
    setSoftwareState i v s =
      { s with
        regions := { s.regions with software := s.regions.software.set i v }
        admission :=
          if s.regions.software.get i = v then s.admission
          else releasedWhere (fun reason region _ => reason == .hold && region == some i) s } := by
  by_cases hsame : s.regions.software.get i = v
  · simp only [setSoftwareState, if_pos hsame]
  · simp only [setSoftwareState, if_neg hsame, release_eq, clears_softwareState]
    rfl

theorem softwareStateOfByte_of_code {b : Byte} {v : SoftwareState}
    (h : b.toNat = match v with | .opened => 0 | .hold => 1 | .shut => 2) : softwareStateOfByte b = some v := by
  rw [softwareStateOfByte, h]
  cases v <;> rfl

theorem softwareStateOfByte_of_three_le {b : Byte} (h : 3 ≤ b.toNat) : softwareStateOfByte b = none := by
  unfold softwareStateOfByte
  split
  case h_1 hb | h_2 hb | h_3 hb => omega
  case h_4 => rfl

theorem exec_setRegionState {index state : Byte} (h : Receives f s) (hpayload : f.payload = [index, state]) :
    exec (.setRegionState f) s = .next (answered f (setRegionStateReply f s)) :=
  congrArg Host.Outcome.next (execCommand_eq_answered (n := 2) h (by simp [hpayload]) (by decide) _)

theorem setRegionStateReply_of_ranges {index state : Byte} {i : RegionIndex} {v : SoftwareState}
    (hpayload : f.payload = [index, state]) (hindex : index.toNat = i.val)
    (hstate : state.toNat = match v with | .opened => 0 | .hold => 1 | .shut => 2) :
    setRegionStateReply f s = accept [] (setSoftwareState i v s) := by
  obtain ⟨hbyte0, hbyte1⟩ := payloadBytes_of_pair hpayload
  rw [setRegionStateReply, hbyte0, hbyte1, regionIndexOfByte_eq_some.mpr hindex, softwareStateOfByte_of_code hstate]

theorem setRegionStateReply_of_bad {index state : Byte} (hpayload : f.payload = [index, state])
    (hbad : 12 ≤ index.toNat ∨ 3 ≤ state.toNat) : setRegionStateReply f s = refuse .badArg s := by
  obtain ⟨hbyte0, hbyte1⟩ := payloadBytes_of_pair hpayload
  rw [setRegionStateReply, hbyte0, hbyte1]
  cases hbad with
  | inl hindex => rw [regionIndexOfByte_eq_none hindex]
  | inr hstate =>
    rw [softwareStateOfByte_of_three_le hstate]
    cases regionIndexOfByte index <;> rfl

end

/-- Settles O53. -/
theorem regionCommandsActAtOnce : Obligations.RegionCommandsActAtOnce := by
  refine ⟨fun s f hreceives hpayload => ?apply, fun s f index state hreceives hpayload =>
    ⟨fun hbad => ?bad, fun i v hindex hstate => ?set⟩⟩
  case apply =>
    rw [exec_applyRegions hreceives hpayload, applyRegionsReply]
    by_cases hidle : s.engine.state ≠ .idle
    · rw [if_pos hidle, if_pos hidle, answered_refuse]
    · rw [if_neg hidle, if_neg hidle]
      by_cases hdepth : 1 ≤ depth s
      · rw [if_pos hdepth, if_pos (Nat.lt_of_succ_le hdepth), answered_refuse]
      · rw [if_neg hdepth, if_neg fun h => hdepth (Nat.succ_le_of_lt h), promote_eq]
        rfl
  case bad => rw [exec_setRegionState hreceives hpayload, setRegionStateReply_of_bad hpayload hbad, answered_refuse]
  case set =>
    rw [exec_setRegionState hreceives hpayload, setRegionStateReply_of_ranges hpayload hindex hstate, setSoftwareState_eq]
    rfl

end Sys2Proof.Machine
end
